-- ==== Sys2Proof/Word.lean ====
section
/-! DEFINITION. The words the block is made of: the command word, bytes of emulated memory and their addresses. -/

namespace Sys2Proof

/-- A command word on the command port (30_encoding.md R83: "one 32-bit word"). -/
abbrev Word := BitVec 32

/-- A byte of emulated memory, which is a sample code (20_memory.md R61; 30_encoding.md R81). -/
abbrev Byte := BitVec 8

/-- A byte address of emulated memory, `ADDR_BITS` = 32 bits wide (00_scope.md R9; 92_eei_decisions.md D26).
Its addition wraps modulo 2^32 (20_memory.md R65). -/
abbrev Addr := BitVec 32

end Sys2Proof
end

