-- ==== Sys2Proof/Config.lean ====
section
/-! DEFINITION. The open parameters of the block (00_scope.md R9; 92_eei_decisions.md, "Open parameters a model takes as
arguments"), as plain data, and the parameters a machine has at reset, as a constant without a body: no proof can see
which they are (assumption log 3, 4). -/

namespace Sys2Proof

/-- One point of the open function `SrcRateOf` (00_scope.md R9, D16): the source bytes per second for one value of the
frequency and clock-source registers. -/
structure SrcRate where
  freq : Nat
  clk : Nat
  rate : Nat
  deriving DecidableEq, Repr, Inhabited

/-- The open parameters (00_scope.md R9). DESIGN CHOICE: `SrcRateOf` is held as a finite table with a default, since a
state holds no function (assumption log 4). -/
structure Params where
  /-- `RING_CAP`: ring capacity in pairs (R9, D31). -/
  ringCap : Nat
  /-- `MAX_BATCH`: largest `srcBatch` the platform will produce, in units (R9, D31). No rule of the block reads it: it
  occurs in the platform's duty `RING_CAP >= 16 * MAX_BATCH` alone (42_log2lin.md R125). -/
  maxBatch : Nat
  /-- `FUDGE_STEP` (R9, D20). -/
  fudgeStep : Nat
  /-- `FUDGE_NUDGE` (R9, D20). -/
  fudgeNudge : Nat
  /-- `HAS_HOST_FEEDBACK` (R9, D21). -/
  hasHostFeedback : Bool
  /-- `SrcRateOf` where it is not `srcRateDefault`: the first entry for a couple of register values counts. -/
  srcRates : List SrcRate
  /-- `SrcRateOf` at the register values the table does not list. -/
  srcRateDefault : Nat
  deriving DecidableEq, Repr, Inhabited

/-- The constraints 00_scope.md R9 puts on the parameters, the duty of whoever configures the block
("`RING_CAP >= 16 * MAX_BATCH`", "`>= 1`", "`1 <= FUDGE_NUDGE <= FUDGE_STEP`"); the block checks none of them
(70_reset_and_hazards.md R229). -/
abbrev Params.WellFormed (p : Params) : Prop :=
  16 * p.maxBatch ≤ p.ringCap ∧ 1 ≤ p.fudgeNudge ∧ p.fudgeNudge ≤ p.fudgeStep

/-- The parameters of the machine at reset: open (00_scope.md R9), so without a body (assumption log 3). -/
opaque Config.params : Params

end Sys2Proof
end

