-- ==== Sys2Proof/Syntax.lean ====
section
/-! DEFINITION. The ten commands (30_encoding.md R84), with the operands of R85. -/

namespace Sys2Proof

/-- One command of the block, one constructor per row of spec/opcode_table.json (30_encoding.md R84). -/
inductive Instr
  /-- `INIT` (46_lifecycle.md R190). -/
  | init
  /-- `SHUTDOWN` (46_lifecycle.md R192). -/
  | shutdown
  /-- `LOOKUP code` (40_lookup.md R104); `code = arg[7:0]`, a sample code. -/
  | lookup (code : Byte)
  /-- `PANUPD` (41_pan.md R111). -/
  | panupd
  /-- `FREQUPD` (45_fetch_scheduler.md R180). -/
  | frequpd
  /-- `RATEUPD` (45_fetch_scheduler.md R181). -/
  | rateupd
  /-- `TICK` (45_fetch_scheduler.md R172). -/
  | tick
  /-- `L2L avail` (42_log2lin.md R121); `avail = arg[23:0]`, an unsigned count of units. -/
  | l2l (avail : Nat)
  /-- `MIX` (43_resampler.md R140). -/
  | mix
  /-- `FEEDBK` (44_rate_control.md R160). -/
  | feedbk
  deriving DecidableEq, Repr

end Sys2Proof
end

