-- ==== Sys2Proof/WellFormed.lean ====
section
/-! DEFINITION. Which commands a command word can carry: the operand bounds of 30_encoding.md R85. -/

namespace Sys2Proof

/-- The operand fits its field. `L2L`: "an unsigned count of units, `0..2^24-1`" (30_encoding.md R85).
`LOOKUP`'s code is eight bits by its type, and no other command takes an operand. -/
abbrev Instr.WellFormed : Instr → Prop
  | .l2l avail => avail < 2 ^ 24
  | .init | .shutdown | .lookup _ | .panupd | .frequpd | .rateupd | .tick | .mix | .feedbk => True

end Sys2Proof
end

