-- ==== Sys2Proof/Decode.lean ====
section
/-! DEFINITION. The command word's decoder (30_encoding.md R83 to R87), total, refusing by name, and after it the encoder
and the host's reading of a table word. -/

namespace Sys2Proof

/-- Why a word is no command (30_encoding.md R86). -/
inductive DecodeError
  /-- `op = 0x00` or `op = 0x0B..0xFF`: reserved. -/
  | reservedOpcode (op : BitVec 8)
  /-- A nonzero bit of `arg` where R85 wants zero. -/
  | nonzeroArg (op : BitVec 8)
  deriving DecidableEq, Repr

/-- Field `op`, bits 31:24 (R83). -/
def wordOp (w : Word) : BitVec 8 := w.extractLsb' 24 8

/-- Field `arg`, bits 23:0 (R83). -/
def wordArg (w : Word) : BitVec 24 := w.extractLsb' 0 24

/-- A command without operand: `arg` must be zero (R85). -/
def withoutArg (w : Word) (i : Instr) : Except DecodeError Instr :=
  if wordArg w = 0 then .ok i else .error (.nonzeroArg (wordOp w))

/-- `LOOKUP`: `code = arg[7:0]`, and `arg[23:8]` must be zero (R85). -/
def decodeLookup (w : Word) : Except DecodeError Instr :=
  if (wordArg w).extractLsb' 8 16 = 0 then .ok (.lookup ((wordArg w).extractLsb' 0 8))
  else .error (.nonzeroArg (wordOp w))

/-- `L2L`: `avail = arg[23:0]`, unsigned (R85). -/
def decodeL2l (w : Word) : Except DecodeError Instr := .ok (.l2l (wordArg w).toNat)

/-- The decoder of R87: a total function of the word, by the opcode map of R84. -/
def decode (w : Word) : Except DecodeError Instr :=
  if wordOp w = 0x01 then withoutArg w .init
  else if wordOp w = 0x02 then withoutArg w .shutdown
  else if wordOp w = 0x03 then decodeLookup w
  else if wordOp w = 0x04 then withoutArg w .panupd
  else if wordOp w = 0x05 then withoutArg w .frequpd
  else if wordOp w = 0x06 then withoutArg w .rateupd
  else if wordOp w = 0x07 then withoutArg w .tick
  else if wordOp w = 0x08 then decodeL2l w
  else if wordOp w = 0x09 then withoutArg w .mix
  else if wordOp w = 0x0A then withoutArg w .feedbk
  else .error (.reservedOpcode (wordOp w))

/-- The opcode of a command (R84). -/
def opcode : Instr → BitVec 8
  | .init => 0x01
  | .shutdown => 0x02
  | .lookup _ => 0x03
  | .panupd => 0x04
  | .frequpd => 0x05
  | .rateupd => 0x06
  | .tick => 0x07
  | .l2l _ => 0x08
  | .mix => 0x09
  | .feedbk => 0x0A

/-- The operand field of a command (R85): "zero where the command takes none". -/
def argField : Instr → BitVec 24
  | .lookup code => code.setWidth 24
  | .l2l avail => BitVec.ofNat 24 avail
  | .init | .shutdown | .panupd | .frequpd | .rateupd | .tick | .mix | .feedbk => 0

/-- The word of a command: `{op, arg}` (R83). -/
def encode (i : Instr) : Word := opcode i ++ argField i

/-- The command word whose bits are `w`, of which the table gives the low `nbits`: a command is ONE 32-bit word of fixed
length on the command port (R83), so bit k of the table's number is bit k of the word. -/
def tableWord (nbits w : Nat) : Word := BitVec.ofNat 32 (w % 2 ^ nbits)

/-- The command the decoder reads from a word numbered as spec/opcode_table.json numbers it. -/
def decodeTableWord (nbits w : Nat) : Option Instr :=
  match decode (tableWord nbits w) with
  | .ok i => some i
  | .error _ => none

end Sys2Proof
end

