-- ==== Sys2Proof/Machine/State.lean ====
section
/-! DEFINITION. The state of the block, as plain data: the block's own fields (10_state.md R20 to R37), the port registers
of the register layer (R38 to R45), emulated memory (20_memory.md R60), the answers of the host sink and of the event
scheduler (R66 to R70), the parameters (00_scope.md R9) and what the external agents do next (R7, R72). -/

namespace Sys2Proof.Machine

/-- `stereoSense` (10_state.md R25; 30_encoding.md R89). -/
inductive StereoSense
  | leftFirst
  | rightFirst
  deriving DecidableEq, Repr

/-- A pair `(s0, s1)` of signed linear samples (10_state.md R30; 30_encoding.md R90), in the ring or handed to the host.
The components are integers as the pseudocode's are; that those of the ring and of the host lie in 16 bits is an
invariant (R47 (f); 43_resampler.md R142; assumption log 8). -/
structure Pair where
  s0 : Int
  s1 : Int
  deriving DecidableEq, Repr

/-- A couple `(g0, g1)` of Q16 gains (10_state.md R29). -/
structure Gain where
  g0 : Nat
  g1 : Nat
  deriving DecidableEq, Repr

/-- What `dmaRate` was last computed from: `memoD = (freqCode, clockSel, tickRate)` (10_state.md R35, D17). -/
structure DmaKey where
  freqCode : Nat
  clockSel : Nat
  tickRate : Nat
  deriving DecidableEq, Repr

/-- What `resampleStep` and `outputScale` were last computed from: `memoS = (freqCode, clockSel, hostRate)`
(10_state.md R35, D17). -/
structure StepKey where
  freqCode : Nat
  clockSel : Nat
  hostRate : BitVec 32
  deriving DecidableEq, Repr

/-- The `SoundState` (10_state.md R23 to R35), which exists in `Active` alone (R20). -/
structure SoundState where
  /-- R23, `>= 1`. -/
  batchSize : Nat
  /-- R24, clock ticks per unit, `>= 1`. -/
  dmaRate : Nat
  /-- R25. -/
  stereoSense : StereoSense
  /-- R26: "The model takes an unbounded integer". -/
  fudgeRate : Int
  /-- R27: Q10, unsigned 32 bits, `>= 1`. -/
  hostRate : BitVec 32
  /-- R28: `logTable[0..255]`. -/
  logTable : Vector Int 256
  /-- R29: `panMatrix[0..7]`. -/
  panMatrix : Vector Gain 8
  /-- R30, R31: the valid pairs `ring[0..ringCount-1]`, index 0 the oldest. Entries at and above `ringCount` "hold no
  value" and are not held, so `ringCount` is the list's length (assumption log 7). -/
  ring : List Pair
  /-- R32: QF, `0 <= resampleTime < 2^F`. -/
  resampleTime : Nat
  /-- R33: QF, `>= 1`. -/
  resampleStep : Nat
  /-- R34: Q16. -/
  outputScale : Nat
  /-- R35. -/
  memoD : Option DmaKey
  /-- R35. -/
  memoS : Option StepKey
  deriving DecidableEq, Repr

/-- `sched` (10_state.md R36): the block's one entry in the event scheduler. -/
inductive Sched
  | idle
  | armed (nextTime : Nat)
  deriving DecidableEq, Repr

/-- The port registers, owned by the register layer (10_state.md R38 to R45). -/
structure Ports where
  /-- `DMA_CUR` (R38). -/
  dmaCur : Addr
  /-- `DMA_START` (R38). -/
  dmaStart : Addr
  /-- `DMA_END` (R38): the address of the buffer's last unit, inclusive. -/
  dmaEnd : Addr
  /-- `DMA_NEXT_START` (R39). -/
  dmaNextStart : Addr
  /-- `DMA_NEXT_END` (R39). -/
  dmaNextEnd : Addr
  /-- `DMA_NEXT_VALID` (R39). -/
  dmaNextValid : Bool
  /-- `DMA_EN` (R40). -/
  dmaEn : Bool
  /-- `SND_IRQ` (R41). -/
  sndIrq : Bool
  /-- `SND_FREQ` (R42). -/
  sndFreq : Nat
  /-- `CLK_SEL` (R42). -/
  clkSel : Nat
  /-- `PANREG[0..7]`, each read as four bits (R43, D6). -/
  panReg : Vector (BitVec 4) 8
  /-- `TICK_RATE` (R44), `>= 1`. -/
  tickRate : Nat
  /-- `NOW` (R44). -/
  now : Nat
  /-- `HOST_USED` (R45). -/
  hostUsed : Nat
  /-- `HOST_CAP` (R45). -/
  hostCap : Nat
  /-- `HOST_ATTEMPTED` (R45). -/
  hostAttempted : Nat
  /-- `HOST_RATE_IN` (R45): Q10; as wide as `hostRate`, which takes it (assumption log 16). -/
  hostRateIn : BitVec 32
  deriving DecidableEq, Repr

/-- The host's answer to `HostInit()` (20_memory.md R66): "On `ok = false` the other three hold no value". -/
inductive HostInitAnswer
  | failed
  | ok (hostRate : BitVec 32) (batchSize : Nat) (stereoSense : StereoSense)
  deriving DecidableEq, Repr

/-- An occupancy triple `(used, cap_h, attempted)` (20_memory.md R68). -/
structure Report where
  used : Nat
  cap : Nat
  attempted : Nat
  deriving DecidableEq, Repr

/-- The host's answers for one lent buffer: `cap` to `HostGetBuffer()` (20_memory.md R67), and to the matching
`HostBuffered(n)` (R68) how many pairs it accepts, at most `room`, with its `report`. -/
structure Lend where
  cap : Nat
  room : Nat
  report : Option Report
  deriving DecidableEq, Repr

/-- A call the block made to the host sink (20_memory.md R66 to R69). -/
inductive HostCall
  /-- `HostInit()`. -/
  | init
  /-- `HostGetBuffer()`, answered by `cap`. -/
  | getBuffer (cap : Nat)
  /-- `HostBuffered(n)`, with the `n` pairs of the host buffer handed back and how many of them the host accepted (fewer
  than `n` is buffer exhaustion, E3 of 60_exceptions.md R203). -/
  | buffered (pairs : List Pair) (accepted : Nat)
  /-- `HostQuit()`. -/
  | quit
  deriving DecidableEq, Repr

/-- The host sink as the block meets it: the answers it will give, and the calls it was sent, oldest first (assumption
log 2, 20). -/
structure HostSink where
  /-- The answer to `HostInit()` (R66). -/
  initAnswer : HostInitAnswer
  /-- The answers for the buffers lent next (R67, R68); when none is left the host lends nothing. -/
  lends : List Lend
  /-- The calls made so far. -/
  calls : List HostCall
  deriving DecidableEq, Repr

/-- Emulated memory (20_memory.md R60 (1)): the bytes that differ from what an unlisted address reads as, by strictly
rising address. -/
abbrev Memory := List Host.Cell

/-- A write an external agent makes between two commands (00_scope.md R7; 20_memory.md R72): a port register, a byte of
emulated memory, or the answer an oracle will give. -/
inductive ExternalWrite
  | dmaCur (a : Addr)
  | dmaStart (a : Addr)
  | dmaEnd (a : Addr)
  | dmaNextStart (a : Addr)
  | dmaNextEnd (a : Addr)
  | dmaNextValid (b : Bool)
  | dmaEn (b : Bool)
  | sndIrq (b : Bool)
  | sndFreq (n : Nat)
  | clkSel (n : Nat)
  | panReg (ch : Fin 8) (code : BitVec 4)
  | tickRate (n : Nat)
  | now (n : Nat)
  | hostUsed (n : Nat)
  | hostCap (n : Nat)
  | hostAttempted (n : Nat)
  | hostRateIn (r : BitVec 32)
  | memory (a : Addr) (b : Byte)
  | hostInit (answer : HostInitAnswer)
  | hostLend (l : Lend)
  | schedFinds (b : Bool)
  deriving DecidableEq, Repr

/-- What an external agent does next (00_scope.md R7): issue a command on the command port (10_state.md R22), let the
scheduler's clock reach the block's timer entry (20_memory.md R70; 60_exceptions.md R211), or write. -/
inductive Input
  | command (w : Word)
  | timer
  | write (x : ExternalWrite)
  deriving DecidableEq, Repr

/-- The whole machine. -/
structure State where
  /-- `life` and the `SoundState`: absent in `Uninit`, present in `Active` (10_state.md R20). -/
  sound : Option SoundState
  /-- R36. -/
  sched : Sched
  /-- R37: sticky. -/
  fatal : Bool
  /-- R37: "the value the last command returned to its issuer". -/
  result : Int
  /-- R38 to R45. -/
  ports : Ports
  /-- 20_memory.md R60 (1). -/
  mem : Memory
  /-- 20_memory.md R66 to R69. -/
  host : HostSink
  /-- `SchedFind()`'s answer: found or not (20_memory.md R70). -/
  schedFinds : Bool
  /-- 00_scope.md R9. -/
  params : Params
  /-- What the external agents do next, in order (R7, R22, R72; assumption log 1). -/
  inputs : List Input
  deriving DecidableEq, Repr

/-- Why the machine stops where the spec defines no step (93_implementation_defined.md). -/
inductive Fault
  /-- Raised by `INIT` when the host answers `ok` with `hostRate = 0` or `batchSize = 0`, against 20_memory.md R66: "a model
  restricts the oracle's answers, it does not define the step for others" (93_implementation_defined.md U5). Safe: the
  model stops. -/
  | hostContract
  deriving DecidableEq, Repr

/-- Why a command has no step (60_exceptions.md R208, error E5). All are safe: the spec gives a refused command no step. -/
inductive Refusal
  /-- An instruction without a meaning, in `exec`'s arms. Safe. No arm answers so. -/
  | notModelled (mnemonic : String)
  /-- R208 (a): the word is reserved or malformed (30_encoding.md R86). Raised by `step`. Safe. -/
  | badWord (e : DecodeError)
  /-- R208 (b): a command other than `INIT` in `Uninit` (46_lifecycle.md R193). Raised by those nine commands. Safe. -/
  | notActive
  /-- R208 (b): `INIT` in `Active` (R190). Raised by `INIT`. Safe. -/
  | notUninit
  /-- R208 (c): `fatal = 1`. Raised by every command. Safe. -/
  | fatalSet
  /-- R208 (d): `L2L` would overrun the ring (42_log2lin.md R121). Raised by `L2L`. Safe. -/
  | ringOverrun
  /-- R208 (e): `RATEUPD` samples a zero rate (45_fetch_scheduler.md R181). Raised by `RATEUPD`. Safe. -/
  | zeroRate
  deriving DecidableEq, Repr

/-- What one command answers. -/
abbrev Answer := Host.Outcome State Fault Refusal

/-- The port registers at reset: "The port registers belong to the register layer and their reset values are outside this
spec" (10_state.md R48). DESIGN CHOICE: zero, and 1 for the two the spec bounds from below (assumption log 9). -/
def Ports.reset : Ports where
  dmaCur := 0
  dmaStart := 0
  dmaEnd := 0
  dmaNextStart := 0
  dmaNextEnd := 0
  dmaNextValid := false
  dmaEn := false
  sndIrq := false
  sndFreq := 0
  clkSel := 0
  panReg := Vector.replicate 8 0
  tickRate := 1
  now := 0
  hostUsed := 0
  hostCap := 0
  hostAttempted := 0
  hostRateIn := 1

/-- The host sink at reset. DESIGN CHOICE: no sink can be opened and none lends a buffer, until one says otherwise
(assumption log 12). -/
def HostSink.reset : HostSink where
  initAnswer := .failed
  lends := []
  calls := []

/-- Power-on (10_state.md R48): "`life = Uninit`, `sched = Idle`, `fatal = 0`, `result` unspecified, no `SoundState`".
DESIGN CHOICE: `result` 0 (assumption log 10), memory with nothing listed (log 11), the ports, the host sink and the
scheduler's answer (log 9, 12), no input waiting (log 25). -/
def State.reset : State where
  sound := none
  sched := .idle
  fatal := false
  result := 0
  ports := Ports.reset
  mem := []
  host := HostSink.reset
  schedFinds := true
  params := Config.params
  inputs := []

end Sys2Proof.Machine
end

