-- ==== Sys2Proof/Machine/Operands.lean ====
section
/-! DEFINITION. The fixed parameters of 00_scope.md R9, the arithmetic primitives of R13, and the operands a command
samples from ports when it is issued (30_encoding.md R85). -/

namespace Sys2Proof.Machine

/-- `F`: fraction bits of `resampleTime` and `resampleStep` (R9, D3). -/
abbrev F : Nat := 9

/-- `ONE = 1 << F` (R9). -/
abbrev ONE : Nat := 512

/-- `NCHAN`: source channels (R9). -/
abbrev NCHAN : Nat := 8

/-- `UNIT_BYTES`: bytes per DMA unit, and ring pairs per unit (R9; 90_conflicts.md C1). -/
abbrev UNIT_BYTES : Nat := 16

/-- `MIN_INTERVAL`: least scheduling interval in clock ticks (R9). -/
abbrev MIN_INTERVAL : Nat := 100

/-- `RESERVE_BASE`: constant of the mixer's safety margin (R9). -/
abbrev RESERVE_BASE : Nat := 10

/-- `BRANCH_THRESHOLD`: large/small branch threshold in source units (R9). -/
abbrev BRANCH_THRESHOLD : Nat := 8

/-- `a >> n` is `a div 2^n`, the arithmetic shift that rounds toward minus infinity (R13, D7). -/
def shr (a : Int) (n : Nat) : Int := a / 2 ^ n

/-- `a quot b`: the quotient rounded toward zero (R13). -/
def quot (a b : Int) : Int := a.tdiv b

/-- `ceil_div(a, b) = (a + b - 1) div b` for `a >= 0`, `b > 0` (R13). -/
def ceilDiv (a b : Nat) : Nat := (a + b - 1) / b

/-- `SrcRateOf(freqCode, clockSel)`: source bytes per second, "result `>= 1`" (R9, D16). -/
def srcRateOf (p : Params) (freqCode clockSel : Nat) : Nat :=
  max 1 (((p.srcRates.find? fun r => r.freq = freqCode ∧ r.clk = clockSel).map SrcRate.rate).getD p.srcRateDefault)

/-- The key `(SND_FREQ, CLK_SEL, TICK_RATE)` of `memoD`, sampled (45_fetch_scheduler.md R171). -/
def dmaKey (p : Ports) : DmaKey := ⟨p.sndFreq, p.clkSel, p.tickRate⟩

/-- The key `(SND_FREQ, CLK_SEL, hostRate)` of `memoS` for a given host rate (43_resampler.md R131). -/
def stepKey (p : Ports) (hostRate : BitVec 32) : StepKey := ⟨p.sndFreq, p.clkSel, hostRate⟩

/-- The operands of `FEEDBK`: `(HOST_USED, HOST_CAP, HOST_ATTEMPTED)` (30_encoding.md R85). -/
def sampledReport (p : Ports) : Report := ⟨p.hostUsed, p.hostCap, p.hostAttempted⟩

end Sys2Proof.Machine
end

