-- ==== Sys2Proof/Machine/Flags.lean ====
section
/-! DEFINITION. The block's one-bit state (10_state.md R46). It has no arithmetic condition codes: the bits are set and
cleared by the operations below and by nothing else. -/

namespace Sys2Proof.Machine

/-- "raise the device's sound-interrupt line": `SND_IRQ <- 1` (10_state.md R41; 60_exceptions.md R205). -/
def Ports.raiseIrq (p : Ports) : Ports := { p with sndIrq := true }

/-- "clear the latch": `DMA_NEXT_VALID <- 0` (10_state.md R39). -/
def Ports.clearLatch (p : Ports) : Ports := { p with dmaNextValid := false }

/-- `fatal <- 1` (10_state.md R37). -/
def State.setFatal (s : State) : State := { s with fatal := true }

/-- The `Idle`/`Armed` tag of `sched` (10_state.md R36, R46). -/
def Sched.isArmed : Sched → Bool
  | .idle => false
  | .armed _ => true

end Sys2Proof.Machine
end

