-- ==== Sys2Proof/Machine/Ops.lean ====
section
/-! DEFINITION. The named operations over the state: setters, the tests every command begins with, emulated memory, the
calls to the host sink, the error entries E1 and E2, the external agents' writes, and taking the next input. -/

namespace Sys2Proof.Machine

/-! ## Setters -/

/-- Keeps the `SoundState`, or (with `none`) discards it: `life` (10_state.md R20). -/
def State.setSound (s : State) (v : Option SoundState) : State := { s with sound := v }

/-- `sched <- v` (R36). -/
def State.setSched (s : State) (v : Sched) : State := { s with sched := v }

/-- `result <- v` (R37). -/
def State.setResult (s : State) (v : Int) : State := { s with result := v }

/-- Writes of port registers (R38 to R45). -/
def State.setPorts (s : State) (v : Ports) : State := { s with ports := v }

/-- Writes of emulated memory: the register layer's alone (20_memory.md R60). -/
def State.setMem (s : State) (v : Memory) : State := { s with mem := v }

/-- What the host sink was sent and will answer (20_memory.md R66 to R69). -/
def State.setHost (s : State) (v : HostSink) : State := { s with host := v }

/-- What the event scheduler will answer (20_memory.md R70). -/
def State.setSchedFinds (s : State) (v : Bool) : State := { s with schedFinds := v }

/-- What the external agents do next (00_scope.md R7). -/
def State.setInputs (s : State) (v : List Input) : State := { s with inputs := v }

/-- `fudgeRate <- f` (R26). -/
def SoundState.setFudge (v : SoundState) (f : Int) : SoundState := { v with fudgeRate := f }

/-- `panMatrix <- m` (R29). -/
def SoundState.setPan (v : SoundState) (m : Vector Gain 8) : SoundState := { v with panMatrix := m }

/-- `ring`, and with it `ringCount` (R30, R31). -/
def SoundState.setRing (v : SoundState) (r : List Pair) : SoundState := { v with ring := r }

/-- `resampleTime <- t` (R32). -/
def SoundState.setTime (v : SoundState) (t : Nat) : SoundState := { v with resampleTime := t }

/-- `hostRate <- r` (R27). -/
def SoundState.setHostRate (v : SoundState) (r : BitVec 32) : SoundState := { v with hostRate := r }

/-- `dmaRate` with the key it was computed from (R24, R35). -/
def SoundState.setDmaRate (v : SoundState) (rate : Nat) (key : DmaKey) : SoundState :=
  { v with dmaRate := rate, memoD := some key }

/-- `resampleStep` and `outputScale` with the key they were computed from (R33 to R35). -/
def SoundState.setStep (v : SoundState) (step scale : Nat) (key : StepKey) : SoundState :=
  { v with resampleStep := step, outputScale := scale, memoS := some key }

/-- `ringCount` (R31): the count of valid pairs. -/
def SoundState.ringCount (v : SoundState) : Nat := v.ring.length

/-! ## The tests a command begins with (60_exceptions.md R206, R208 (b) and (c)) -/

/-- `require life = Active else refuse`. -/
def requireActive (s : State) (k : SoundState → Answer) : Answer :=
  if s.fatal then .refused .fatalSet
  else match s.sound with
    | none => .refused .notActive
    | some v => k v

/-- `require life = Uninit else refuse`. -/
def requireUninit (s : State) (k : Answer) : Answer :=
  if s.fatal then .refused .fatalSet
  else match s.sound with
    | none => k
    | some _ => .refused .notUninit

/-! ## Emulated memory (20_memory.md R60, R61) -/

/-- What a byte of emulated memory nothing has written reads as. DESIGN CHOICE: the spec gives memory no contents
(assumption log 11). -/
def Memory.unlisted : Byte := 0

/-- `MemRead(addr, 1)` (R61). -/
def Memory.read : Memory → Addr → Byte
  | [], _ => Memory.unlisted
  | (k, b) :: m, a => if k = a.toNat then b else Memory.read m a

/-- One byte at one address, the other bytes as they were, in the canonical form: the entry goes to its place, and goes
away if an unlisted byte reads the same. -/
def Memory.write : Memory → Addr → Byte → Memory
  | [], a, b => if b = Memory.unlisted then [] else [(a.toNat, b)]
  | (k, c) :: m, a, b =>
    if k < a.toNat then (k, c) :: Memory.write m a b
    else if k = a.toNat then (if b = Memory.unlisted then m else (a.toNat, b) :: m)
    else if b = Memory.unlisted then (k, c) :: m
    else (a.toNat, b) :: (k, c) :: m

/-- The canonical form: addresses strictly rising inside the 32-bit space, no entry equal to what an unlisted address
reads as. -/
abbrev Memory.wf (m : Memory) : Prop :=
  m.Pairwise (fun c d => c.1 < d.1) ∧ ∀ c ∈ m, c.2 ≠ Memory.unlisted ∧ c.1 < 2 ^ 32

/-! ## Calls to the host sink (20_memory.md R66 to R69) -/

/-- What a host that lends nothing answers: `cap = 0` (R67 "`cap >= 0`"). -/
def noLend : Lend := ⟨0, 0, none⟩

/-- The answers for the buffer lent next. DESIGN CHOICE: when none is listed the host lends nothing (assumption log 2). -/
def HostSink.nextLend (h : HostSink) : Lend := h.lends.headD noLend

/-- `HostGetBuffer()` (R67): the call is recorded and its answer used up. -/
def HostSink.getBuffer (h : HostSink) : HostSink :=
  { h with lends := h.lends.tail, calls := h.calls ++ [.getBuffer h.nextLend.cap] }

/-- `HostBuffered(n)` with the host buffer's first `n` pairs (R68): the host takes as many as it has room for, so
`0 <= accepted <= n`. -/
def HostSink.buffered (h : HostSink) (pairs : List Pair) (room : Nat) : HostSink :=
  { h with calls := h.calls ++ [.buffered pairs (min room pairs.length)] }

/-- `HostInit()` (R66). -/
def HostSink.callInit (h : HostSink) : HostSink := { h with calls := h.calls ++ [.init] }

/-- `HostQuit()` (R69). -/
def HostSink.callQuit (h : HostSink) : HostSink := { h with calls := h.calls ++ [.quit] }

/-! ## Error entries. No error saves state, changes a mode or transfers control (60_exceptions.md R207), and there is no
return from one (R209). -/

/-- E1 `InitFailure` (60_exceptions.md R201): "`result <- 1` and nothing else". -/
def takeInitFailure (s : State) : State := s.setResult 1

/-- E2 `FatalConsistency` (60_exceptions.md R202): `fatal <- 1`, "with `life` still `Active` and nothing released". The
state is terminal because every later command is refused (assumption log 13). -/
def takeFatalConsistency (s : State) : State := s.setFatal

/-! ## External agents (00_scope.md R7; 20_memory.md R72) -/

/-- A write of a port register by its owner. -/
def Ports.external (p : Ports) : ExternalWrite → Ports
  | .dmaCur a => { p with dmaCur := a }
  | .dmaStart a => { p with dmaStart := a }
  | .dmaEnd a => { p with dmaEnd := a }
  | .dmaNextStart a => { p with dmaNextStart := a }
  | .dmaNextEnd a => { p with dmaNextEnd := a }
  | .dmaNextValid b => { p with dmaNextValid := b }
  | .dmaEn b => { p with dmaEn := b }
  | .sndIrq b => { p with sndIrq := b }
  | .sndFreq n => { p with sndFreq := n }
  | .clkSel n => { p with clkSel := n }
  | .panReg ch code => { p with panReg := p.panReg.set ch code }
  | .tickRate n => { p with tickRate := n }
  | .now n => { p with now := n }
  | .hostUsed n => { p with hostUsed := n }
  | .hostCap n => { p with hostCap := n }
  | .hostAttempted n => { p with hostAttempted := n }
  | .hostRateIn r => { p with hostRateIn := r }
  | .memory _ _ | .hostInit _ | .hostLend _ | .schedFinds _ => p

/-- One write of an external agent: a port register, a byte of emulated memory, or an answer an oracle will give. -/
def State.external (s : State) (x : ExternalWrite) : State :=
  match x with
  | .memory a b => s.setMem (s.mem.write a b)
  | .hostInit answer => s.setHost { s.host with initAnswer := answer }
  | .hostLend l => s.setHost { s.host with lends := s.host.lends ++ [l] }
  | .schedFinds b => s.setSchedFinds b
  | x => s.setPorts (s.ports.external x)

/-! ## Taking the next input -/

/-- What the machine does next. -/
inductive Next
  /-- No input waits: "the block simply holds its state" (60_exceptions.md R213). -/
  | hold
  /-- An external agent has acted; the block has not. -/
  | acted (s : State)
  /-- A word that is no command (30_encoding.md R86). -/
  | illegal (e : DecodeError)
  /-- A command, in the state it is issued in. -/
  | issue (i : Instr) (s : State)
  deriving DecidableEq, Repr

/-- The word on the command port, decoded (30_encoding.md R87). -/
def issueWord (w : Word) (s : State) : Next :=
  match decode w with
  | .ok i => .issue i s
  | .error e => .illegal e

/-- The timer's expiry (20_memory.md R70; 70_reset_and_hazards.md R222 (3)): the scheduler's clock stands at `nextTime` and
it issues `TICK`, "with `NOW` equal to that time"; with no entry it has nothing to issue. -/
def expireTimer (s : State) : Next :=
  match s.sched with
  | .idle => .acted s
  | .armed t => .issue .tick (s.setPorts { s.ports with now := t })

/-- Takes the first input off the list. -/
def takeInput (s : State) : Next :=
  match s.inputs with
  | [] => .hold
  | .command w :: rest => issueWord w (s.setInputs rest)
  | .timer :: rest => expireTimer (s.setInputs rest)
  | .write x :: rest => .acted ((s.setInputs rest).external x)

/-- The word put on the command port, to be taken before the inputs already waiting. -/
def State.issue (s : State) (w : Word) : State := s.setInputs (.command w :: s.inputs)

end Sys2Proof.Machine
end

