-- ==== Sys2Proof/Machine/Pan.lean ====
section
/-! DEFINITION. The Stereo Pan Matrix and `PANUPD` (41_pan.md). -/

namespace Sys2Proof.Machine

/-- Left and right percentages of an effective pan code; any other integer is muted (R112; 30_encoding.md R82). -/
def panPercent (m : Int) : Nat × Nat :=
  if m = 1 then (100, 0)
  else if m = 2 then (83, 17)
  else if m = 3 then (67, 33)
  else if m = 4 then (50, 50)
  else if m = 5 then (33, 67)
  else if m = 6 then (17, 83)
  else if m = 7 then (0, 100)
  else (0, 0)

/-- A percentage as a Q16 gain: `(p * 65536) div 100` (R112, D5). -/
def percentGain (p : Nat) : Nat := p * 65536 / 100

/-- `PanGain(m)` (R112). -/
def panGain (m : Int) : Gain := ⟨percentGain (panPercent m).1, percentGain (panPercent m).2⟩

/-- The effective code: `8 - r` when `stereoSense = RightFirst`, else `r` (30_encoding.md R82; R111, R113). -/
def effectiveCode (sense : StereoSense) (r : BitVec 4) : Int :=
  match sense with
  | .leftFirst => r.toNat
  | .rightFirst => 8 - r.toNat

/-- The loop of R111: the matrix the pan registers stand for. -/
def panMatrixOf (sense : StereoSense) (regs : Vector (BitVec 4) 8) : Vector Gain 8 :=
  Vector.ofFn fun ch => panGain (effectiveCode sense regs[ch])

/-- `PANUPD` (R111): "Writes `panMatrix` only". An invalid code mutes its channel and is no error (E4, 60_exceptions.md
R204). -/
def execPanupd (s : State) : Answer :=
  requireActive s fun v => .next (s.setSound (v.setPan (panMatrixOf v.stereoSense s.ports.panReg)))

end Sys2Proof.Machine
end

