-- ==== Sys2Proof/Machine/Table.lean ====
section
/-! DEFINITION. The Log-to-Linear Table and `LOOKUP` (40_lookup.md). -/

namespace Sys2Proof.Machine

/-- `SCALE = 65535 div (247 * 2)` (R101). -/
def SCALE : Int := 65535 / (247 * 2)

/-- Field `chord`, bits 7:5 of a sample code (30_encoding.md R81). -/
def chordOf (code : Byte) : Nat := (code.extractLsb' 5 3).toNat

/-- Field `point`, bits 4:1 (30_encoding.md R81). -/
def pointOf (code : Byte) : Nat := (code.extractLsb' 1 4).toNat

/-- Field `sign`, bit 0: 1 = negative (30_encoding.md R81). -/
def signOf (code : Byte) : Bool := code.getLsbD 0

/-- `mag = base * SCALE + step * point` (R101), every division an integer division in the order written (D4; assumption
log 6). -/
def logMagnitude (chord point : Nat) : Int :=
  let base : Int := 2 ^ chord - 1
  let step : Int := (2 ^ chord * SCALE) / 16
  base * SCALE + step * point

/-- `LogLin(code)` (R101). -/
def logLin (code : Byte) : Int :=
  let mag := logMagnitude (chordOf code) (pointOf code)
  if signOf code then -mag else mag

/-- The whole table, as `INIT` builds it (R100, R105). -/
def logTable : Vector Int 256 := ⟨((List.range 256).map fun c => logLin (BitVec.ofNat 8 c)).toArray, by simp⟩

/-- `logTable[code]`. -/
def tableAt (t : Vector Int 256) (code : Byte) : Int := t[code.toNat]'code.isLt

/-- `LOOKUP code` (R104): "Reads `logTable`; writes `result` only". -/
def execLookup (code : Byte) (s : State) : Answer :=
  requireActive s fun v => .next (s.setResult (tableAt v.logTable code))

end Sys2Proof.Machine
end

