-- ==== Sys2Proof/Machine/Log2Lin.lean ====
section
/-! DEFINITION. The Log2Lin bulk pipeline and `L2L` (42_log2lin.md). -/

namespace Sys2Proof.Machine

/-- One sample panned: `( (g0 * v) >> 16, (g1 * v) >> 16 )` (R121, R123). -/
def panSample (g : Gain) (v : Int) : Pair := ⟨shr (g.g0 * v) 16, shr (g.g1 * v) 16⟩

/-- The gains of the channel that byte `j` of a fetch belongs to: `ch = j mod 8` (20_memory.md R62). -/
def gainAt (m : Vector Gain 8) (j : Nat) : Gain := m[j % NCHAN]'(Nat.mod_lt _ (by decide))

/-- Pair `j` of a fetch from `cur` (R121): the byte at `(cur + j) mod 2^32`, decoded and panned. -/
def decodePair (mem : Memory) (cur : Addr) (v : SoundState) (j : Nat) : Pair :=
  panSample (gainAt v.panMatrix j) (tableAt v.logTable (mem.read (cur + BitVec.ofNat 32 j)))

/-- The `16 * avail` pairs of a fetch, in increasing `j` (R121, R124). -/
def decodeUnits (mem : Memory) (cur : Addr) (v : SoundState) (avail : Nat) : List Pair :=
  (List.range (UNIT_BYTES * avail)).map (decodePair mem cur v)

/-- The body of `L2L` (R121), also run by `TICK` step 4: the pairs are appended to the ring. -/
def appendUnits (mem : Memory) (cur : Addr) (v : SoundState) (avail : Nat) : SoundState :=
  v.setRing (v.ring ++ decodeUnits mem cur v avail)

/-- `L2L avail` (R121): refused when the ring would overrun (D31). It does not advance `DMA_CUR`. -/
def execL2l (avail : Nat) (s : State) : Answer :=
  requireActive s fun v =>
    if v.ringCount + UNIT_BYTES * avail ≤ s.params.ringCap then
      .next (s.setSound (appendUnits s.mem s.ports.dmaCur v avail))
    else .refused .ringOverrun

end Sys2Proof.Machine
end

