-- ==== Sys2Proof/Machine/RateControl.lean ====
section
/-! DEFINITION. The Adaptive Rate Controller and `FEEDBK` (44_rate_control.md). -/

namespace Sys2Proof.Machine

/-- `Classify(f, used, cap, attempted)` (R161): the first case that holds, in the source's order. -/
def classify (p : Params) (f : Int) (r : Report) : Int :=
  let free : Int := (r.cap : Int) - r.used
  if r.used = 0 then
    if f > p.fudgeStep then quot f 2 else f - p.fudgeStep
  else if (r.attempted : Int) > free then
    if f < -(p.fudgeStep : Int) then quot f 2 else f + p.fudgeStep
  else if r.used < r.cap / 4 then f - p.fudgeNudge
  else if r.used > 3 * r.cap / 4 then f + p.fudgeNudge
  else if f > 0 then f - 1
  else if f < 0 then f + 1
  else 0

/-- `ApplyFeedback(report)` (R162): the host's report; without one, and without host feedback, the ring's occupancy after
the drain; else nothing. -/
def applyFeedback (p : Params) (v : SoundState) (report : Option Report) : SoundState :=
  match report with
  | some r => v.setFudge (classify p v.fudgeRate r)
  | none =>
    if p.hasHostFeedback then v
    else v.setFudge (classify p v.fudgeRate ⟨v.ringCount, p.ringCap, 0⟩)

/-- `FEEDBK` (R160): "Writes `fudgeRate` only". -/
def execFeedbk (s : State) : Answer :=
  requireActive s fun v => .next (s.setSound (v.setFudge (classify s.params v.fudgeRate (sampledReport s.ports))))

end Sys2Proof.Machine
end

