-- ==== Sys2Proof/Machine/Resampler.lean ====
section
/-! DEFINITION. The Resampling Mixer, its coefficients and `MIX` (43_resampler.md). -/

namespace Sys2Proof.Machine

/-! ## One destination pair (R133 to R142) -/

/-- `Weight(i, tq, e)` (R134): how long pair `i`'s window `[(i-7)*ONE, (i+1)*ONE)` overlaps the interval `[tq, e)`. -/
def weight (i tq e : Nat) : Int :=
  max 0 (min (e : Int) (((i : Int) + 1) * ONE) - max (tq : Int) (((i : Int) - 7) * ONE))

/-- `last = ((e - 1) >> F) + 7` (R134). -/
def lastPair (e : Nat) : Nat := (e - 1) / ONE + 7

/-- `A` of the small branch (R136): the sum of `Weight(i, tq, e) * P[i]`, the first sample being pair `i`. -/
def weightedSum (tq e : Nat) : Nat → List Int → Int
  | _, [] => 0
  | i, x :: xs => weight i tq e * x + weightedSum tq e (i + 1) xs

/-- `X` of the small branch (R136): `A >> F`. -/
def smallArea (tq e : Nat) (samples : List Int) : Int := shr (weightedSum tq e 0 samples) F

/-- The walk of the large branch (R138): the partial accumulator `acc1` and the middle accumulator `acc2`, the first
sample being pair `i`. -/
def largeWalk (tq e : Nat) : Nat → List Int → Int × Int → Int × Int
  | _, [], acc => acc
  | i, x :: xs, (acc1, acc2) =>
    let w := weight i tq e
    if w = 8 * ONE then largeWalk tq e (i + 1) xs (acc1, acc2 + x)
    else largeWalk tq e (i + 1) xs (acc1 + w * x, acc2)

/-- `X` of the large branch (R138): the source's fold `lacc2 += lacc>>(3+TIMESHIFT)`, once after the walk, then the weight
of 8. -/
def largeArea (tq e : Nat) (samples : List Int) : Int :=
  let acc := largeWalk tq e 0 samples (0, 0)
  8 * (acc.2 + shr acc.1 (3 + F))

/-- The branch of R135: large when `resampleStep > 8 * ONE`. -/
def area (sq tq e : Nat) (samples : List Int) : Int :=
  if sq > BRANCH_THRESHOLD * ONE then largeArea tq e samples else smallArea tq e samples

/-- One host pair from the unread ring (R140, R142): `out_c = (X_c * S) >> 19` for each component, over
`ring[rd .. rd + last]`. -/
def mixOne (sq scale tq : Nat) (unread : List Pair) : Pair :=
  let e := tq + sq
  let window := unread.take (lastPair e + 1)
  ⟨shr (area sq tq e (window.map Pair.s0) * scale) 19, shr (area sq tq e (window.map Pair.s1) * scale) 19⟩

/-! ## The drain (R140, R141, R143) -/

/-- `reserve = 10 + ceil_div(resampleStep, ONE)` (R141). -/
def reserve (sq : Nat) : Nat := RESERVE_BASE + ceilDiv sq ONE

/-- What the loop of R140 leaves: the host pairs written, the pairs not yet read, and the start of the next interval. -/
structure Drain where
  out : List Pair
  unread : List Pair
  time : Nat
  deriving DecidableEq, Repr

/-- The loop of R140 with room for `room` more host pairs: it runs while there is room and at least `reserve` pairs are
unread, and each round reads on by `e >> F` pairs and keeps `e mod ONE` (R143). -/
def mixLoop (sq scale : Nat) : Nat → List Pair → Nat → Drain
  | 0, unread, tq => ⟨[], unread, tq⟩
  | room + 1, unread, tq =>
    if reserve sq ≤ unread.length then
      let e := tq + sq
      let rest := mixLoop sq scale room (unread.drop (e / ONE)) (e % ONE)
      ⟨mixOne sq scale tq unread :: rest.out, rest.unread, rest.time⟩
    else ⟨[], unread, tq⟩

/-- What `MixBody` leaves: the block's state, the host's, and `n`, the host pairs produced. -/
structure Mixed where
  sound : SoundState
  host : HostSink
  produced : Nat
  deriving DecidableEq, Repr

/-- The drain and the compaction (R143): the unread pairs become the ring. -/
def drained (v : SoundState) (d : Drain) : SoundState := (v.setRing d.unread).setTime d.time

/-- `MixBody` (R140), also run by `TICK` and `Flush`. -/
def mixBody (p : Params) (v : SoundState) (h : HostSink) : Mixed :=
  let lent := h.nextLend
  if lent.cap = 0 then ⟨v, h.getBuffer, 0⟩
  else
    let d := mixLoop v.resampleStep v.outputScale lent.cap v.ring v.resampleTime
    ⟨applyFeedback p (drained v d) lent.report, h.getBuffer.buffered d.out lent.room, d.out.length⟩

/-- `MIX` (R140). -/
def execMix (s : State) : Answer :=
  requireActive s fun v =>
    let m := mixBody s.params v s.host
    .next ((s.setSound m.sound).setHost m.host)

/-! ## Flush and the coefficients (R131, R132) -/

/-- The rounds of `Flush` (R132): `MixBody` until one produces nothing. The count bounds the rounds; with as many as the
host has answers the last round, if it comes to it, is lent nothing and ends the flush (assumption log 2). -/
def flushRounds (p : Params) : Nat → SoundState → HostSink → Mixed
  | 0, v, h => mixBody p v h
  | rounds + 1, v, h =>
    let m := mixBody p v h
    if m.produced = 0 then m else flushRounds p rounds m.sound m.host

/-- `Flush()` (R132). -/
def flush (p : Params) (v : SoundState) (h : HostSink) : Mixed := flushRounds p h.lends.length v h

/-- `max(1, (SrcRateOf * 2^(F+10)) div hostRate)` (R131). -/
def stepFor (p : Params) (k : StepKey) : Nat :=
  max 1 (srcRateOf p k.freqCode k.clockSel * 2 ^ (F + 10) / k.hostRate.toNat)

/-- `2^(16+F) div resampleStep` (R131). -/
def scaleFor (step : Nat) : Nat := 2 ^ (16 + F) / step

/-- `UpdateStep(flush)` (R131): memoised; the flush comes first, with the OLD coefficients. -/
def updateStep (p : Params) (ports : Ports) (withFlush : Bool) (v : SoundState) (h : HostSink) : SoundState × HostSink :=
  let key := stepKey ports v.hostRate
  if v.memoS = some key then (v, h)
  else
    let m := if withFlush then flush p v h else ⟨v, h, 0⟩
    (m.sound.setStep (stepFor p key) (scaleFor (stepFor p key)) key, m.host)

end Sys2Proof.Machine
end

