-- ==== Sys2Proof/Machine/Scheduler.lean ====
section
/-! DEFINITION. The DMA Fetch Scheduler: `TICK`, `FREQUPD`, `RATEUPD` (45_fetch_scheduler.md). -/

namespace Sys2Proof.Machine

/-- `max(1, (16 * TICK_RATE) div SrcRateOf)` (R171). -/
def dmaRateFor (p : Params) (k : DmaKey) : Nat :=
  max 1 (UNIT_BYTES * k.tickRate / srcRateOf p k.freqCode k.clockSel)

/-- `UpdateDmaRate()` (R171): memoised. -/
def updateDmaRate (p : Params) (ports : Ports) (v : SoundState) : SoundState :=
  let key := dmaKey ports
  if v.memoD = some key then v else v.setDmaRate (dmaRateFor p key) key

/-- Step 2 (R173): `srcBatch = max(1, ceil_div(batchSize * resampleStep, ONE))`, the formula as printed (90_conflicts.md
C4). -/
def srcBatch (v : SoundState) : Nat := max 1 (ceilDiv (v.batchSize * v.resampleStep) ONE)

/-- "swap to it": the next buffer becomes the current one, the interrupt is raised and the latch cleared (R174). -/
def swapBuffer (p : Ports) : Ports :=
  (Ports.clearLatch (Ports.raiseIrq
    { p with dmaStart := p.dmaNextStart, dmaEnd := p.dmaNextEnd, dmaCur := p.dmaNextStart }))

/-- "otherwise wrap the pointer to the start of the *current* buffer (no interrupt)" (R174). -/
def wrapPointer (p : Ports) : Ports := { p with dmaCur := p.dmaStart }

/-- Step 3, swap and wrap (R174): with DMA enabled and the current pointer past the end, by unsigned comparison. With DMA
disabled nothing (R179). -/
def swapOrWrap (p : Ports) : Ports :=
  if p.dmaEn ∧ p.dmaEnd < p.dmaCur then
    if p.dmaNextValid then swapBuffer p else wrapPointer p
  else p

/-- `rem = DMA_END + 16 - DMA_CUR`: bytes left in the buffer, negative for a malformed descriptor (R175). -/
def bytesLeft (p : Ports) : Int := (p.dmaEnd.toNat : Int) + UNIT_BYTES - p.dmaCur.toNat

/-- Step 3, availability (R175), after the swap or wrap; 0 with DMA disabled (R179). -/
def availUnits (params : Params) (p : Ports) (v : SoundState) : Nat :=
  if p.dmaEn then
    (max 0 (min (srcBatch v : Int)
      (min (bytesLeft p / UNIT_BYTES) (((params.ringCap : Int) - v.ringCount) / UNIT_BYTES)))).toNat
  else 0

/-- Step 5 (R176): `max(MIN_INTERVAL, dmaRate * max(avail, srcBatch) + fudgeRate)`. -/
def interval (dmaRate avail batch : Nat) (fudge : Int) : Nat :=
  (max (MIN_INTERVAL : Int) ((dmaRate : Int) * (max avail batch : Nat) + fudge)).toNat

/-- Step 6, pointer (R177): `DMA_CUR <- (DMA_CUR + 16 * avail) mod 2^32`. -/
def advancePointer (p : Ports) (avail : Nat) : Ports :=
  { p with dmaCur := p.dmaCur + BitVec.ofNat 32 (UNIT_BYTES * avail) }

/-- `TICK` (R172): the source's six steps in order, at the time `T = NOW`. -/
def execTick (s : State) : Answer :=
  requireActive s fun v0 =>
    let v1 := updateDmaRate s.params s.ports v0
    let batch := srcBatch v1
    let ports := swapOrWrap s.ports
    let avail := availUnits s.params ports v1
    let v2 := appendUnits s.mem ports.dmaCur v1 avail
    let m := mixBody s.params v2 s.host
    let wait := interval m.sound.dmaRate avail batch m.sound.fudgeRate
    .next ((((s.setSound m.sound).setHost m.host).setPorts (advancePointer ports avail)).setSched
      (.armed (s.ports.now + wait)))

/-- `FREQUPD` (R180). -/
def execFrequpd (s : State) : Answer :=
  requireActive s fun v =>
    let r := updateStep s.params s.ports true (updateDmaRate s.params s.ports v) s.host
    .next ((s.setSound r.1).setHost r.2)

/-- The flush of `RATEUPD` (R181): with the old coefficients, if the new rate changes the key of `memoS`. -/
def rateFlush (p : Params) (ports : Ports) (v : SoundState) (h : HostSink) : Mixed :=
  if v.memoS = some (stepKey ports ports.hostRateIn) then ⟨v, h, 0⟩ else flush p v h

/-- `RATEUPD` (R181). -/
def execRateupd (s : State) : Answer :=
  requireActive s fun v =>
    if s.ports.hostRateIn = 0 then .refused .zeroRate
    else
      let m := rateFlush s.params s.ports v s.host
      let r := updateStep s.params s.ports false (m.sound.setHostRate s.ports.hostRateIn) m.host
      .next ((s.setSound r.1).setHost r.2)

end Sys2Proof.Machine
end

