-- ==== Sys2Proof/Machine/Lifecycle.lean ====
section
/-! DEFINITION. The lifecycle: `INIT` and `SHUTDOWN` (46_lifecycle.md). -/

namespace Sys2Proof.Machine

/-- The fields `INIT` creates before it computes the rates (R190). `dmaRate`, `resampleStep` and `outputScale` have no
value there yet: the memos are `none`, so `UpdateDmaRate` and `UpdateStep` write all three before the command ends. -/
def freshSound (ports : Ports) (hostRate : BitVec 32) (batchSize : Nat) (sense : StereoSense) : SoundState where
  batchSize := batchSize
  dmaRate := 1
  stereoSense := sense
  fudgeRate := 0
  hostRate := hostRate
  logTable := logTable
  panMatrix := panMatrixOf sense ports.panReg
  ring := []
  resampleTime := 0
  resampleStep := 1
  outputScale := 0
  memoD := none
  memoS := none

/-- "create SoundState" of R190: the fresh fields, then the rates from the present ports. The ring is empty, so
`UpdateStep` does not flush. -/
def createSound (p : Params) (ports : Ports) (h : HostSink) (hostRate : BitVec 32) (batchSize : Nat)
    (sense : StereoSense) : SoundState × HostSink :=
  updateStep p ports false (updateDmaRate p ports (freshSound ports hostRate batchSize sense)) h

/-- `INIT` (R190): asks the host sink, then creates the `SoundState` and arms the timer, or ends with E1 (R201). A host that
answers `ok` with a zero rate or batch breaks 20_memory.md R66, and no step is defined (93_implementation_defined.md U5;
assumption log 15). -/
def execInit (s : State) : Answer :=
  requireUninit s <|
    let called := s.host.callInit
    match s.host.initAnswer with
    | .failed => .next (takeInitFailure (s.setHost called))
    | .ok hostRate batchSize sense =>
      if hostRate = 0 ∨ batchSize = 0 then .fault .hostContract
      else
        let r := createSound s.params s.ports called hostRate batchSize sense
        .next ((((s.setSound r.1).setHost r.2).setSched (.armed (s.ports.now + MIN_INTERVAL))).setResult 0)

/-- `SHUTDOWN` (R192): removes the timer entry, quits the host and discards the `SoundState`, pairs in the ring included;
or, when the scheduler cannot find the entry, E2 (60_exceptions.md R202). -/
def execShutdown (s : State) : Answer :=
  requireActive s fun _ =>
    if s.schedFinds then
      .next (((s.setSched .idle).setHost s.host.callQuit).setSound none)
    else .next (takeFatalConsistency s)

end Sys2Proof.Machine
end

