-- ==== Sys2Proof/Machine/Dispatch.lean ====
section
/-! DEFINITION. One arm per command (30_encoding.md R84). -/

namespace Sys2Proof.Machine

def exec (i : Instr) (s : State) : Host.Outcome State Fault Refusal :=
  match i with
  | .init => Sys2Proof.Machine.execInit s
  | .shutdown => Sys2Proof.Machine.execShutdown s
  | .lookup code => Sys2Proof.Machine.execLookup code s
  | .panupd => Sys2Proof.Machine.execPanupd s
  | .frequpd => Sys2Proof.Machine.execFrequpd s
  | .rateupd => Sys2Proof.Machine.execRateupd s
  | .tick => Sys2Proof.Machine.execTick s
  | .l2l avail => Sys2Proof.Machine.execL2l avail s
  | .mix => Sys2Proof.Machine.execMix s
  | .feedbk => Sys2Proof.Machine.execFeedbk s

end Sys2Proof.Machine
end

