-- ==== Sys2Proof/Machine/Step.lean ====
section
/-! DEFINITION. One step: the next input of the external agents is taken, and if it issues a command, that command runs to
completion (00_scope.md R6; 10_state.md R22). -/

namespace Sys2Proof.Machine

/-- One step. A word that is no command is refused (60_exceptions.md R208 (a)); with no input waiting the block holds its
state (R213). -/
def step (s : State) : Host.Outcome State Fault Refusal :=
  match takeInput s with
  | .hold => .next s
  | .acted t => .next t
  | .illegal e => .refused (.badWord e)
  | .issue i t => exec i t

/-- The state with the command word `w` (of which the table gives the low `nbits`) as the next word on the command port,
which is where `step` takes its next command from (assumption log 25). -/
def State.withFetchWord (s : State) (nbits w : Nat) : State := s.issue (tableWord nbits w)

end Sys2Proof.Machine
end

