-- ==== Sys2Proof/Safety.lean ====
section
/-! DEFINITION. What counts as a good state: the invariants of 10_state.md R47 with what the memoisation and the rates
rest on, the states a command runs normally in, and the terminal state of 60_exceptions.md R202. -/

namespace Sys2Proof.Machine

/-- `life = Active` with this `SoundState`, and `fatal = 0`: the states in which a command other than `INIT` is not refused
for the state's sake (60_exceptions.md R208 (b), (c)). -/
abbrev Active (s : State) (v : SoundState) : Prop := s.fatal = false ∧ s.sound = some v

/-- `life = Uninit` and `fatal = 0`: the states in which `INIT` is not refused (46_lifecycle.md R190). -/
abbrev Uninit (s : State) : Prop := s.fatal = false ∧ s.sound = none

/-- The range of a decoded and panned sample: `-32604 .. 32604` (42_log2lin.md R123), inside the signed 16 bits of
10_state.md R47 (f). -/
abbrev SampleRange (x : Int) : Prop := -32604 ≤ x ∧ x ≤ 32604

/-- Both components of a pair are in range. -/
abbrev PairRange (p : Pair) : Prop := SampleRange p.s0 ∧ SampleRange p.s1

/-- "one of the eight couples of 41_pan.md rule R112" (10_state.md R47 (e)): seven legal codes and mute. -/
def panCouples : List Gain :=
  [⟨0, 0⟩, ⟨65536, 0⟩, ⟨54394, 11141⟩, ⟨43909, 21626⟩, ⟨32768, 32768⟩, ⟨21626, 43909⟩, ⟨11141, 54394⟩, ⟨0, 65536⟩]

/-- What holds of the `SoundState` between commands: 10_state.md R47 (a) to (f), the lower bounds of R23, R24, R27, and
that `dmaRate`, `resampleStep` and `outputScale` are what the remembered keys give (R35; 92_eei_decisions.md D17). -/
structure SoundInv (p : Params) (v : SoundState) : Prop where
  /-- R47 (a). -/
  ring_fits : v.ringCount ≤ p.ringCap
  /-- R47 (b). -/
  time_fraction : v.resampleTime < ONE
  /-- R47 (c). -/
  step_pos : 1 ≤ v.resampleStep
  /-- R47 (d). -/
  table_built : ∀ code, tableAt v.logTable code = logLin code
  /-- R47 (e). -/
  pan_legal : ∀ g ∈ v.panMatrix.toList, g ∈ panCouples
  /-- 42_log2lin.md R123, which gives R47 (f). -/
  ring_range : ∀ x ∈ v.ring, PairRange x
  /-- R23. -/
  batch_pos : 1 ≤ v.batchSize
  /-- R24. -/
  dma_pos : 1 ≤ v.dmaRate
  /-- R27. -/
  host_rate_pos : v.hostRate ≠ 0
  /-- R34; 43_resampler.md R131. -/
  scale_matches : v.outputScale = scaleFor v.resampleStep
  /-- R35: `memoD` is what `dmaRate` was last computed from. -/
  memoD_matches : ∃ k, v.memoD = some k ∧ v.dmaRate = dmaRateFor p k
  /-- R35: `memoS` is what `resampleStep` was last computed from, for the present host rate. -/
  memoS_matches : ∃ k, v.memoS = some k ∧ k.hostRate = v.hostRate ∧ v.resampleStep = stepFor p k

/-- The invariant of the machine. -/
structure StateInv (s : State) : Prop where
  /-- Emulated memory is in its canonical form. -/
  mem_wf : s.mem.wf
  /-- R47 (g) with 45_fetch_scheduler.md R170: armed in `Active`, idle in `Uninit`. -/
  armed_iff_active : s.sched.isArmed = s.sound.isSome
  /-- 60_exceptions.md R202: after E2 `life` is still `Active`. -/
  fatal_active : s.fatal = true → s.sound.isSome = true
  /-- R47 (a) to (f). -/
  sound_inv : ∀ v, s.sound = some v → SoundInv s.params v

/-- The scheduler is faithful: `SchedFind` "answers `found` exactly when `sched` is `Armed`" (20_memory.md R70), a premise
a claim may take. -/
abbrev FaithfulScheduler (s : State) : Prop := s.schedFinds = s.sched.isArmed

/-- A good end of a run: "A state with `fatal = 1` is never a good end state" (70_reset_and_hazards.md R233). -/
abbrev GoodEnd (s : State) : Prop := s.fatal = false

/-- What `Flush` ends on (43_resampler.md R132): a round that produced nothing, because the host lent nothing or because
fewer than the reserve remained. -/
abbrev EndsOnEmptyRound (calls : List HostCall) : Prop :=
  calls.getLast? = some (.getBuffer 0) ∨ ∃ taken, calls.getLast? = some (.buffered [] taken)

end Sys2Proof.Machine
end

