-- ==== Sys2Proof/Certificates/Slice0/Obligations.lean ====
section
/-! DEFINITION. The statements about the block that the provers settle, drawn from the numbered rules of spec/, and the few
words they are written in. -/

open Sys2Proof Sys2Proof.Machine

/-! ## Words of the statements -/

/-- The number of a command's word by the tables of 30_encoding.md R84 and R85, as 95_test_vectors.md lists it. -/
def commandNumber : Instr → Nat
  | .init => 0x01000000
  | .shutdown => 0x02000000
  | .lookup code => 0x03000000 + code.toNat
  | .panupd => 0x04000000
  | .frequpd => 0x05000000
  | .rateupd => 0x06000000
  | .tick => 0x07000000
  | .l2l avail => 0x08000000 + avail
  | .mix => 0x09000000
  | .feedbk => 0x0A000000

/-- A value of a signed 16-bit word. -/
abbrev Signed16 (x : Int) : Prop := -32768 ≤ x ∧ x ≤ 32767

/-- Both components of a pair are signed 16-bit values. -/
abbrev Pair16 (p : Pair) : Prop := Signed16 p.s0 ∧ Signed16 p.s1

/-- `X` of 43_resampler.md R135, R136 and R138 as sums over the samples `P 0 .. P last` of one interval. -/
def areaSum (sq tq : Nat) (P : Nat → Int) : Int :=
  let e := tq + sq
  let window := Finset.range ((e - 1) / 512 + 7 + 1)
  if sq ≤ 8 * 512 then (∑ i ∈ window, weight i tq e * P i) / 2 ^ 9
  else
    let full := ∑ i ∈ window.filter (fun i => weight i tq e = 8 * 512), P i
    let partialSum := ∑ i ∈ window.filter (fun i => weight i tq e ≠ 8 * 512), weight i tq e * P i
    8 * (full + partialSum / 2 ^ (3 + 9))

/-- The position of interval `k` of a drain on the source time axis, in QF (43_resampler.md R133, R143). -/
def positionOf (v : SoundState) (k : Nat) : Nat := v.resampleTime + k * v.resampleStep

/-- `MIX` issued `n` times. -/
def mixTimes : Nat → State → Answer
  | 0, s => .next s
  | n + 1, s =>
    match exec .mix s with
    | .next t => mixTimes n t
    | .fault r => .fault r
    | .refused r => .refused r

/-- `srcBatch` of 45_fetch_scheduler.md R173. -/
def batchUnits (v : SoundState) : Nat := max 1 ((v.batchSize * v.resampleStep + 511) / 512)

/-! ## Encoding (30_encoding.md) -/

/-- Every operand survives encoding and decoding (R83 to R87). -/
def Obligations.DecodeInvertsEncode : Prop :=
  ∀ i : Instr, i.WellFormed → decode (encode i) = .ok i

/-- Each word has one meaning: a decoded word is the word of the command it decodes to (R83 to R87). -/
def Obligations.EncodeInvertsDecode : Prop :=
  ∀ (w : Word) (i : Instr), decode w = .ok i → i.WellFormed ∧ encode i = w

/-- The decoder against the numbers of R84, R85 (not against the encoder), what is refused (R86), and the masks of R87. -/
def Obligations.CommandWordsAreExactlyTheTable : Prop :=
  (∀ (w : Word) (i : Instr), decode w = .ok i ↔ i.WellFormed ∧ w.toNat = commandNumber i) ∧
  (∀ w : Word, (w.toNat / 2 ^ 24 = 0 ∨ 0x0B ≤ w.toNat / 2 ^ 24) →
    decode w = .error (.reservedOpcode (BitVec.ofNat 8 (w.toNat / 2 ^ 24)))) ∧
  (∀ w : Word, w.toNat / 2 ^ 24 ≠ 0 → w.toNat / 2 ^ 24 < 0x0B → w.toNat / 2 ^ 24 ≠ 8 →
    (if w.toNat / 2 ^ 24 = 3 then 256 ≤ w.toNat % 2 ^ 24 else w.toNat % 2 ^ 24 ≠ 0) →
    decode w = .error (.nonzeroArg (BitVec.ofNat 8 (w.toNat / 2 ^ 24)))) ∧
  (∀ (s : State) (w : Word) (rest : List Input) (e : DecodeError), s.inputs = .command w :: rest → decode w = .error e →
    step s = .refused (.badWord e)) ∧
  (∀ w : Word, (∃ code, decode w = .ok (.lookup code)) ↔ w &&& 0xFFFFFF00 = 0x03000000) ∧
  (∀ w : Word, (∃ avail, decode w = .ok (.l2l avail)) ↔ w &&& 0xFF000000 = 0x08000000)

/-- A few words of 95_test_vectors.md. -/
def Obligations.SampleWordsDecode : Prop :=
  decode 0x01000000 = .ok .init ∧ decode 0x02000000 = .ok .shutdown ∧ decode 0x0300004B = .ok (.lookup 0x4B) ∧
  decode 0x04000000 = .ok .panupd ∧ decode 0x05000000 = .ok .frequpd ∧ decode 0x06000000 = .ok .rateupd ∧
  decode 0x07000000 = .ok .tick ∧ decode 0x08000002 = .ok (.l2l 2) ∧ decode 0x08FFFFFF = .ok (.l2l 16777215) ∧
  decode 0x09000000 = .ok .mix ∧ decode 0x0A000000 = .ok .feedbk ∧
  decode 0x030001FE = .error (.nonzeroArg 3) ∧ decode 0x07000001 = .error (.nonzeroArg 7) ∧
  decode 0x00000000 = .error (.reservedOpcode 0) ∧ decode 0x0B000000 = .error (.reservedOpcode 11) ∧
  decode 0xFF000000 = .error (.reservedOpcode 255)

/-! ## Steps, refusals, totality -/

/-- A step runs the command decoded from the command port, in the state less that input; and a word placed by
`withFetchWord` is run in the state it was placed in. -/
def Obligations.StepRunsTheDecodedCommand : Prop :=
  (∀ (s : State) (w : Word) (rest : List Input) (i : Instr), s.inputs = .command w :: rest → decode w = .ok i →
    step s = exec i (s.setInputs rest)) ∧
  (∀ (s : State) (nbits w : Nat) (i : Instr), decodeTableWord nbits w = some i → step (s.withFetchWord nbits w) = exec i s)

/-- A step without a command on the port: it holds (R213), lets an external agent write, or the timer's expiry issues
`TICK` with `NOW = nextTime` (R70). The list of inputs is the model's form (assumption log 1, 21). -/
def Obligations.StepWithoutACommand : Prop :=
  (∀ s : State, s.inputs = [] → step s = .next s) ∧
  (∀ (s : State) (x : ExternalWrite) (rest : List Input), s.inputs = .write x :: rest →
    step s = .next ((s.setInputs rest).external x)) ∧
  (∀ (s : State) (rest : List Input), s.inputs = .timer :: rest → s.sched = .idle → step s = .next (s.setInputs rest)) ∧
  (∀ (s : State) (rest : List Input) (n : Nat), s.inputs = .timer :: rest → s.sched = .armed n →
    step s = exec .tick ((s.setInputs rest).setPorts { s.ports with now := n }))

/-- Exactly the cases (a) to (e) of R208 are refused. -/
def Obligations.RefusedExactlyWhenListed : Prop :=
  ∀ (s : State) (w : Word) (rest : List Input), s.inputs = .command w :: rest →
    ((∃ r, step s = .refused r) ↔
      (∀ i, decode w ≠ .ok i) ∨
      ∃ i, decode w = .ok i ∧
        (s.fatal = true ∨ (i = .init ∧ s.sound ≠ none) ∨ (i ≠ .init ∧ s.sound = none) ∨
          (∃ avail v, i = .l2l avail ∧ s.sound = some v ∧ s.params.ringCap < v.ringCount + 16 * avail) ∨
          (i = .rateupd ∧ s.ports.hostRateIn = 0)))

/-- The one fault: `INIT` under a host that breaks 20_memory.md R66 (assumption log 15). Every other path is total
(R212). -/
def Obligations.OnlyInitUnderABrokenHostFaults : Prop :=
  ∀ (i : Instr) (s : State) (f : Fault), exec i s = .fault f ↔
    f = .hostContract ∧ i = .init ∧ Uninit s ∧
      ∃ rate batch sense, s.host.initAnswer = .ok rate batch sense ∧ (rate = 0 ∨ batch = 0)

/-- In every state R208 does not exclude, a command runs to a next state (R212). -/
def Obligations.EveryCommandCompletes : Prop :=
  (∀ (s : State) (v : SoundState) (i : Instr), Active s v → i ≠ .init →
    (∀ avail, i = .l2l avail → v.ringCount + 16 * avail ≤ s.params.ringCap) →
    (i = .rateupd → s.ports.hostRateIn ≠ 0) → ∃ t, exec i s = .next t) ∧
  (∀ s : State, Uninit s →
    (∀ rate batch sense, s.host.initAnswer = .ok rate batch sense → rate ≠ 0 ∧ 1 ≤ batch) → ∃ t, exec .init s = .next t)

/-! ## Lifecycle (10_state.md R48, 46_lifecycle.md, 60_exceptions.md) -/

/-- Power-on as R48 states it. (The other reset values are the model's: assumption log 9 to 12.) -/
def Obligations.PowerOnState : Prop :=
  State.reset.sound = none ∧ State.reset.sched = .idle ∧ State.reset.fatal = false

/-- `INIT` (R190): what each field holds after it, what stays, and when it fails or is refused. -/
def Obligations.InitCreatesTheSoundState : Prop :=
  (∀ (s : State) (rate : BitVec 32) (batch : Nat) (sense : StereoSense), Uninit s →
    s.host.initAnswer = .ok rate batch sense → rate ≠ 0 → 1 ≤ batch →
    ∃ v, exec .init s = .next ((((s.setSound (some v)).setHost { s.host with calls := s.host.calls ++ [.init] }).setSched
        (.armed (s.ports.now + 100))).setResult 0) ∧
      v.hostRate = rate ∧ v.batchSize = batch ∧ v.stereoSense = sense ∧
      (∀ code, tableAt v.logTable code = logLin code) ∧
      (∀ ch : Fin 8, v.panMatrix[ch] =
        panGain (match sense with
          | .leftFirst => (s.ports.panReg[ch].toNat : Int)
          | .rightFirst => 8 - (s.ports.panReg[ch].toNat : Int))) ∧
      v.ring = [] ∧ v.resampleTime = 0 ∧ v.fudgeRate = 0 ∧
      v.dmaRate = max 1 (16 * s.ports.tickRate / srcRateOf s.params s.ports.sndFreq s.ports.clkSel) ∧
      v.memoD = some ⟨s.ports.sndFreq, s.ports.clkSel, s.ports.tickRate⟩ ∧
      v.resampleStep = max 1 (srcRateOf s.params s.ports.sndFreq s.ports.clkSel * 2 ^ 19 / rate.toNat) ∧
      v.outputScale = 2 ^ 25 / v.resampleStep ∧
      v.memoS = some ⟨s.ports.sndFreq, s.ports.clkSel, rate⟩) ∧
  (∀ s : State, Uninit s → s.host.initAnswer = .failed →
    exec .init s = .next ((s.setHost { s.host with calls := s.host.calls ++ [.init] }).setResult 1)) ∧
  (∀ (s : State) (v : SoundState), Active s v → exec .init s = .refused .notUninit) ∧
  decode 0x01000000 = .ok .init

/-- E1 (R201): a failed `INIT` leaves `result = 1` and nothing else, and `INIT` may be issued again. -/
def Obligations.FailedInitMayBeRetried : Prop :=
  ∀ s : State, Uninit s → s.host.initAnswer = .failed →
    ∃ t, exec .init s = .next t ∧ t = { s with result := 1, host := { s.host with calls := s.host.calls ++ [.init] } } ∧
      ∃ u, exec .init t = .next u

/-- `SHUTDOWN` (R192): found, everything is released; not found, `fatal` and nothing else, and no later command is accepted;
refused in `Uninit`. -/
def Obligations.ShutdownReleasesOrIsFatal : Prop :=
  (∀ (s : State) (v : SoundState), Active s v → s.schedFinds = true →
    exec .shutdown s = .next { s with
      sched := .idle, host := { s.host with calls := s.host.calls ++ [.quit] }, sound := none }) ∧
  (∀ (s : State) (v : SoundState), Active s v → s.schedFinds = false →
    exec .shutdown s = .next { s with fatal := true } ∧ ∀ i, exec i { s with fatal := true } = .refused .fatalSet) ∧
  (∀ s : State, Uninit s → exec .shutdown s = .refused .notActive) ∧
  decode 0x02000000 = .ok .shutdown

/-- E2 (R202): the failed `SHUTDOWN` sets `fatal` and leaves `life` `Active`; after it every command is refused, and no
step, an external agent's either, clears `fatal` or touches the block. -/
def Obligations.FatalIsTerminal : Prop :=
  (∀ (s : State) (v : SoundState), Active s v → s.schedFinds = false →
    ∃ t, exec .shutdown s = .next t ∧ t.fatal = true ∧ t.sound = some v) ∧
  (∀ (s : State) (i : Instr), s.fatal = true → exec i s = .refused .fatalSet) ∧
  (∀ s t : State, s.fatal = true → step s = .next t →
    t.fatal = true ∧ t.sound = s.sound ∧ t.sched = s.sched ∧ t.result = s.result ∧ t.host.calls = s.host.calls)

/-- Backend switching (R194): after `SHUTDOWN` and `INIT` nothing of the old `SoundState` survives: what is created depends
on the ports, the parameters and the host's answer alone; the ports and `fatal` are as they were. -/
def Obligations.BackendSwitchForgets : Prop :=
  ∀ s s' u u' t t' : State, s.ports = s'.ports → s.params = s'.params → s.host.initAnswer = s'.host.initAnswer →
    exec .shutdown s = .next u → exec .shutdown s' = .next u' → exec .init u = .next t → exec .init u' = .next t' →
    t.sound = t'.sound ∧ t.sched = t'.sched ∧ t.result = t'.result ∧ t.ports = s.ports ∧ t.fatal = s.fatal ∧
    ∀ v, t.sound = some v →
      v.ring = [] ∧ v.resampleTime = 0 ∧ v.fudgeRate = 0 ∧ ∀ code, tableAt v.logTable code = logLin code

/-! ## The table (40_lookup.md) -/

/-- R101: the formula, with the fields of the code as quotients of its number. -/
def Obligations.LogLinFormula : Prop :=
  ∀ code : Byte,
    logLin code =
      (if code.toNat % 2 = 1 then -1 else 1) *
        ((2 ^ (code.toNat / 32) - 1) * (65535 / (247 * 2)) +
          (2 ^ (code.toNat / 32) * (65535 / (247 * 2))) / 16 * ((code.toNat / 2 % 16 : Nat) : Int))

/-- R103: sign symmetry, and the magnitude strictly rising within a chord and across chords (so over the even codes). -/
def Obligations.LogTableSymmetricAndRising : Prop :=
  (∀ code : Byte, logLin (code ||| 1) = -logLin (code &&& ~~~1)) ∧
  (∀ c d : Byte, c.toNat % 2 = 0 → d.toNat % 2 = 0 → c.toNat < d.toNat → logLin c < logLin d) ∧
  logLin 0 = 0 ∧ logLin 1 = 0

/-- `LOOKUP` (R104): it writes `result` with the table's entry and nothing else; with the table as built that is `LogLin`;
codes 0x00 and 0x01 give 0 and 0xFE gives 32604; refused in `Uninit`. -/
def Obligations.LookupReadsTheTable : Prop :=
  (∀ (s : State) (v : SoundState) (code : Byte), Active s v →
    exec (.lookup code) s = .next { s with result := tableAt v.logTable code }) ∧
  (∀ (s : State) (v : SoundState) (code : Byte), Active s v → SoundInv s.params v →
    exec (.lookup code) s = .next { s with result := logLin code }) ∧
  (∀ (s : State) (code : Byte), Uninit s → exec (.lookup code) s = .refused .notActive) ∧
  logLin 0x00 = 0 ∧ logLin 0x01 = 0 ∧ logLin 0xFE = 32604 ∧
  (∀ code : Byte, decode (BitVec.ofNat 32 (0x03000000 + code.toNat)) = .ok (.lookup code))

/-! ## The pan matrix (41_pan.md) -/

/-- R112: the table of gains, every other integer muted, and each gain `(p * 65536) div 100`. -/
def Obligations.PanGainTable : Prop :=
  panGain 1 = ⟨65536, 0⟩ ∧ panGain 2 = ⟨54394, 11141⟩ ∧ panGain 3 = ⟨43909, 21626⟩ ∧ panGain 4 = ⟨32768, 32768⟩ ∧
  panGain 5 = ⟨21626, 43909⟩ ∧ panGain 6 = ⟨11141, 54394⟩ ∧ panGain 7 = ⟨0, 65536⟩ ∧
  (∀ m : Int, m ≤ 0 ∨ 8 ≤ m → panGain m = ⟨0, 0⟩) ∧
  (∀ m : Int, 1 ≤ m → m ≤ 7 → 65535 ≤ (panGain m).g0 + (panGain m).g1 ∧ (panGain m).g0 + (panGain m).g1 ≤ 65536) ∧
  (54394 = 83 * 65536 / 100 ∧ 11141 = 17 * 65536 / 100 ∧ 43909 = 67 * 65536 / 100 ∧ 21626 = 33 * 65536 / 100 ∧
    32768 = 50 * 65536 / 100)

/-- R113: mirroring exchanges the two gains, for every integer. -/
def Obligations.MirroringSwapsTheGains : Prop :=
  (∀ m : Int, panGain (8 - m) = ⟨(panGain m).g1, (panGain m).g0⟩) ∧
  (∀ r : BitVec 4, panGain (effectiveCode .rightFirst r) =
    ⟨(panGain (effectiveCode .leftFirst r)).g1, (panGain (effectiveCode .leftFirst r)).g0⟩)

/-- R114: the register values 0 and 8 to 15 mute in both senses; a muted channel's pairs are (0, 0) and still one per
byte. -/
def Obligations.InvalidPanCodesMute : Prop :=
  (∀ (r : BitVec 4) (sense : StereoSense), r.toNat = 0 ∨ 8 ≤ r.toNat → panGain (effectiveCode sense r) = ⟨0, 0⟩) ∧
  (∀ v : Int, panSample ⟨0, 0⟩ v = ⟨0, 0⟩) ∧
  (∀ (mem : Memory) (cur : Addr) (v : SoundState) (avail : Nat), (decodeUnits mem cur v avail).length = 16 * avail)

/-- `PANUPD` (R111): the matrix from the registers, nothing else; idempotent; refused in `Uninit`. -/
def Obligations.PanupdFollowsTheRegisters : Prop :=
  (∀ (s : State) (v : SoundState), Active s v →
    ∃ m : Vector Gain 8, exec .panupd s = .next { s with sound := some { v with panMatrix := m } } ∧
      (∀ ch : Fin 8, m[ch] = panGain (if v.stereoSense = .rightFirst then 8 - (s.ports.panReg[ch].toNat : Int)
        else (s.ports.panReg[ch].toNat : Int)))) ∧
  (∀ s t : State, exec .panupd s = .next t → exec .panupd t = .next t) ∧
  (∀ s : State, Uninit s → exec .panupd s = .refused .notActive) ∧
  decode 0x04000000 = .ok .panupd

/-! ## The bulk pipeline (42_log2lin.md) -/

/-- `L2L` (R121): `16 * avail` pairs appended in order, each from its byte and its channel's gains, and nothing else; or
refused when the ring would overrun. -/
def Obligations.L2lAppendsDecodedUnits : Prop :=
  (∀ (s : State) (v : SoundState) (avail : Nat), Active s v → v.ringCount + 16 * avail ≤ s.params.ringCap →
    ∃ new : List Pair, exec (.l2l avail) s = .next { s with sound := some { v with ring := v.ring ++ new } } ∧
      new.length = 16 * avail ∧
      ∀ (j : Nat) (b : Byte) (g : Gain), j < 16 * avail →
        b = s.mem.read (BitVec.ofNat 32 (s.ports.dmaCur.toNat + j)) → v.panMatrix[j % 8]? = some g →
        new[j]? = some ⟨(g.g0 * tableAt v.logTable b) / 65536, (g.g1 * tableAt v.logTable b) / 65536⟩) ∧
  (∀ (s : State) (v : SoundState) (avail : Nat), Active s v → s.params.ringCap < v.ringCount + 16 * avail →
    exec (.l2l avail) s = .refused .ringOverrun) ∧
  (∀ (s : State) (avail : Nat), Uninit s → exec (.l2l avail) s = .refused .notActive) ∧
  (∀ avail : Nat, avail < 2 ^ 24 → decode (BitVec.ofNat 32 (0x08000000 + avail)) = .ok (.l2l avail))

/-- R122: `L2L 0` changes nothing. -/
def Obligations.L2lOfNoUnitsChangesNothing : Prop :=
  ∀ (s : State) (v : SoundState), Active s v → SoundInv s.params v → exec (.l2l 0) s = .next s

/-- R123: the pan product fits 32 bits and the shifted one 16; the shift rounds toward minus infinity. -/
def Obligations.PanProductBounds : Prop :=
  (∀ (g : Nat) (v : Int), g ≤ 65536 → SampleRange v →
    |(g : Int) * v| ≤ 2136735744 ∧ SampleRange (shr (g * v) 16) ∧
    (0 ≤ v → |shr (g * v) 16| ≤ |v|) ∧
    (v < 0 → (g = 0 ∨ g = 65536) → v ≤ shr (g * v) 16 ∧ shr (g * v) 16 ≤ 0) ∧
    (v < 0 → g ≠ 0 → g ≠ 65536 → v ≤ shr (g * v) 16 ∧ shr (g * v) 16 ≤ -1)) ∧
  shr (32768 * 33) 16 = 16 ∧ shr (32768 * (-33)) 16 = -17

/-- R124: pair `j` depends on byte `j`, on the gains of channel `j mod 8` and on the table's entry for that byte alone; the
pairs come in increasing `j`; a muted channel gives (0, 0) for every byte, and the bytes 0x00 and 0x01 for every gain. -/
def Obligations.LanesAreIndependent : Prop :=
  (∀ (mem mem' : Memory) (cur cur' : Addr) (v v' : SoundState) (j : Nat) (b : Byte),
    mem.read (cur + BitVec.ofNat 32 j) = b → mem'.read (cur' + BitVec.ofNat 32 j) = b →
    v.panMatrix[j % 8]? = v'.panMatrix[j % 8]? → tableAt v.logTable b = tableAt v'.logTable b →
    decodePair mem cur v j = decodePair mem' cur' v' j) ∧
  (∀ (mem : Memory) (cur : Addr) (v : SoundState) (avail j : Nat),
    (decodeUnits mem cur v avail)[j]? = if j < 16 * avail then some (decodePair mem cur v j) else none) ∧
  (∀ v : Int, panSample ⟨0, 0⟩ v = ⟨0, 0⟩) ∧
  (∀ g : Gain, panSample g (logLin 0x00) = ⟨0, 0⟩ ∧ panSample g (logLin 0x01) = ⟨0, 0⟩)

/-! ## The mixer (43_resampler.md) -/

/-- R134: the weights of an interval: zero beyond `last`, positive up to it, at most the interval and at most a window, a
whole window only in intervals that long, and `8 * sq` together. -/
def Obligations.WeightsOfAnInterval : Prop :=
  ∀ tq sq : Nat, tq < 512 → 1 ≤ sq →
    (∀ i : Nat, weight i tq (tq + sq) =
      max 0 (min ((tq : Int) + sq) ((i + 1) * 512) - max (tq : Int) ((i - 7) * 512))) ∧
    (∀ i : Nat, (tq + sq - 1) / 512 + 7 < i → weight i tq (tq + sq) = 0) ∧
    (∀ i : Nat, i ≤ (tq + sq - 1) / 512 + 7 → 0 < weight i tq (tq + sq)) ∧
    (∀ i : Nat, 0 ≤ weight i tq (tq + sq) ∧ weight i tq (tq + sq) ≤ min (sq : Int) (8 * 512)) ∧
    (∀ i : Nat, weight i tq (tq + sq) = 8 * 512 → 8 * 512 ≤ sq) ∧
    ∑ i ∈ Finset.range ((tq + sq - 1) / 512 + 7 + 1), weight i tq (tq + sq) = 8 * sq

/-- R135, R136, R138: one host pair is the area sum of its branch, scaled, component by component; and in the large branch
the partly overlapped pairs are a head of at most eight and a tail. -/
def Obligations.HostPairIsTheAreaSum : Prop :=
  (∀ (sq scale tq : Nat) (unread : List Pair), (tq + sq - 1) / 512 + 7 < unread.length →
    mixOne sq scale tq unread =
      ⟨areaSum sq tq (fun i => (unread.getD i ⟨0, 0⟩).s0) * scale / 2 ^ 19,
        areaSum sq tq (fun i => (unread.getD i ⟨0, 0⟩).s1) * scale / 2 ^ 19⟩) ∧
  ∀ sq tq i : Nat, tq < 512 → 8 * 512 < sq → i ≤ (tq + sq - 1) / 512 + 7 →
    (i ≤ 7 → weight i tq (tq + sq) = ((i : Int) + 1) * 512 - tq) ∧
    ((tq + sq) / 512 ≤ i →
      weight i tq (tq + sq) = (tq : Int) + sq - ((i : Int) - 7) * 512 ∧ weight i tq (tq + sq) < 8 * 512) ∧
    (8 ≤ i → i < (tq + sq) / 512 → weight i tq (tq + sq) = 8 * 512)

/-- R144: at most one source tick per host pair: seven full weights and two that complement each other. -/
def Obligations.SlowRatiosWeighNinePairs : Prop :=
  ∀ tq sq : Nat, tq < 512 → 1 ≤ sq → sq ≤ 512 → ∀ w : Int, w = max 0 ((tq : Int) + sq - 512) →
    weight 0 tq (tq + sq) = sq - w ∧ (∀ i : Nat, 1 ≤ i → i ≤ 7 → weight i tq (tq + sq) = sq) ∧
    weight 8 tq (tq + sq) = w ∧ (∀ i : Nat, 9 ≤ i → weight i tq (tq + sq) = 0) ∧
    ∀ p0 p1 p2 p3 p4 p5 p6 p7 p8 : Int, weightedSum tq (tq + sq) 0 [p0, p1, p2, p3, p4, p5, p6, p7, p8] =
      sq * (p1 + p2 + p3 + p4 + p5 + p6 + p7) + (sq - w) * p0 + w * p8

/-- R141: no read and no advance passes the reserve, so none passes the valid ring. -/
def Obligations.ReserveCoversEveryRead : Prop :=
  ∀ tq sq : Nat, tq < 512 → 1 ≤ sq →
    reserve sq = 10 + (sq + 511) / 512 ∧ lastPair (tq + sq) ≤ (sq + 511) / 512 + 7 ∧
    lastPair (tq + sq) < reserve sq ∧ (tq + sq) / 512 ≤ (sq + 511) / 512 ∧ (tq + sq) / 512 < reserve sq

/-- `MIX` (R140, R143): in closed form. With a buffer lent, host pair `k` is made of the pairs from position
`resampleTime + k * resampleStep` on, as many pairs as the buffer holds and the reserve allows; the ring keeps what is
unread, `resampleTime` the fraction, and the feedback is applied. Lent nothing, it asks the host and does nothing else. -/
def Obligations.MixDrainsTheRing : Prop :=
  (∀ (s : State) (v : SoundState) (lent : Lend) (rest : List Lend), Active s v → v.resampleTime < 512 →
    s.host.lends = lent :: rest → lent.cap ≠ 0 →
    ∃ out : List Pair,
      exec .mix s = .next { s with
        sound := some (applyFeedback s.params { v with
          ring := v.ring.drop (positionOf v out.length / 512), resampleTime := positionOf v out.length % 512 } lent.report),
        host := { s.host with
          lends := rest,
          calls := s.host.calls ++ [.getBuffer lent.cap, .buffered out (min lent.room out.length)] } } ∧
      out.length ≤ lent.cap ∧
      (∀ k, k < out.length →
        out[k]? = some (mixOne v.resampleStep v.outputScale (positionOf v k % 512) (v.ring.drop (positionOf v k / 512))) ∧
        10 + (v.resampleStep + 511) / 512 + positionOf v k / 512 ≤ v.ring.length) ∧
      (out.length < lent.cap →
        v.ring.length < 10 + (v.resampleStep + 511) / 512 + positionOf v out.length / 512)) ∧
  (∀ (s : State) (v : SoundState), Active s v → s.host.nextLend.cap = 0 →
    exec .mix s = .next { s with
      host := { s.host with lends := s.host.lends.tail, calls := s.host.calls ++ [.getBuffer 0] } }) ∧
  (∀ s : State, Uninit s → exec .mix s = .refused .notActive) ∧
  decode 0x09000000 = .ok .mix

/-- R142: the output's range for a ring of 16-bit magnitudes and for the ring's range of R123, with the scale of R131; and
in the large branch, whose area is a multiple of 8, the shift by 19 is one by 16. -/
def Obligations.HostPairRange : Prop :=
  (∀ (sq tq : Nat) (unread : List Pair), tq < 512 → 1 ≤ sq → (tq + sq - 1) / 512 + 7 < unread.length →
    ∀ o : Pair, o = mixOne sq (2 ^ 25 / sq) tq unread →
      ((∀ x ∈ unread, |x.s0| ≤ 32768 ∧ |x.s1| ≤ 32768) → |o.s0| ≤ 32768 ∧ |o.s1| ≤ 32768) ∧
      ((∀ x ∈ unread, PairRange x) →
        (-32668 ≤ o.s0 ∧ o.s0 ≤ 32604 ∧ -32668 ≤ o.s1 ∧ o.s1 ≤ 32604) ∧ (64 ≤ sq → -32605 ≤ o.s0 ∧ -32605 ≤ o.s1))) ∧
  (∀ acc scale : Int, 8 * acc * scale / 2 ^ 19 = acc * scale / 2 ^ 16)

/-- R142 for the machine: from every state that meets the invariant, whatever the command, every host pair handed over is
two signed 16-bit samples, so the block needs no clipping step. -/
def Obligations.EveryHostSampleFitsSixteenBits : Prop :=
  ∀ (i : Instr) (s t : State), StateInv s → exec i s = .next t →
    ∃ made, t.host.calls = s.host.calls ++ made ∧
      ∀ pairs taken, HostCall.buffered pairs taken ∈ made → taken ≤ pairs.length ∧ ∀ x ∈ pairs, Pair16 x

/-- R145: a constant ring gives the constant, exactly, at every step that is a power of two from `2^(F-3)` to `2^(16+F)`;
within `2 + (|v| * step) div 2^(16+F)` at every step from `ONE div 8` on; the rule's three examples; and the first host pair
equals the rest, wherever in its tick the interval starts. -/
def Obligations.ConstantStreamsArePreserved : Prop :=
  (∀ (k tq : Nat) (v : Int) (n : Nat), 6 ≤ k → k ≤ 25 → tq < 512 → (tq + 2 ^ k - 1) / 512 + 7 < n →
    mixOne (2 ^ k) (2 ^ 25 / 2 ^ k) tq (List.replicate n ⟨v, v⟩) = ⟨v, v⟩) ∧
  (∀ (sq tq : Nat) (v : Int) (n : Nat), 64 ≤ sq → tq < 512 → (tq + sq - 1) / 512 + 7 < n → SampleRange v →
    ∃ out, mixOne sq (2 ^ 25 / sq) tq (List.replicate n ⟨v, v⟩) = ⟨out, out⟩ ∧ |out - v| ≤ 2 + |v| * sq / 2 ^ 25) ∧
  (∀ (sq scale tq tq' : Nat) (v : Int) (n n' : Nat), 1 ≤ sq → tq < 512 → tq' < 512 → (tq + sq - 1) / 512 + 7 < n →
    (tq' + sq - 1) / 512 + 7 < n' →
    mixOne sq scale tq (List.replicate n ⟨v, v⟩) = mixOne sq scale tq' (List.replicate n' ⟨v, v⟩)) ∧
  mixOne 1 (2 ^ 25 / 1) 0 (List.replicate 8 ⟨1000, 1000⟩) = ⟨960, 960⟩ ∧
  mixOne 51200 655 0 (List.replicate 107 ⟨1000, 1000⟩) = ⟨999, 999⟩ ∧
  mixOne 51200 655 0 (List.replicate 107 ⟨32604, 32604⟩) = ⟨32586, 32586⟩

/-- E3 (R203): how many of the delivered pairs the host accepts changes nothing in the block; no pair is made again. -/
def Obligations.AShortAcceptanceChangesNothing : Prop :=
  ∀ (s s' t t' : State) (cap room room' : Nat) (report : Option Report) (rest : List Lend),
    s.host.lends = ⟨cap, room, report⟩ :: rest →
    s' = s.setHost { s.host with lends := ⟨cap, room', report⟩ :: rest } →
    exec .mix s = .next t → exec .mix s' = .next t' →
    t.sound = t'.sound ∧ t.host.lends = t'.host.lends ∧ t = { t' with host := t.host }

/-- `MIX` reads the `SoundState` and the host alone: ports, memory and scheduler entry play no part (R140 "Reads"). -/
def Obligations.MixReadsNoPortAndNoMemory : Prop :=
  ∀ s s' t t' : State, s.sound = s'.sound → s.host = s'.host → s.params = s'.params → exec .mix s = .next t →
    exec .mix s' = .next t' → t.sound = t'.sound ∧ t.host = t'.host

/-! ## Coefficients: `FREQUPD`, `RATEUPD` (43_resampler.md R131, R132; 45_fetch_scheduler.md R180, R181) -/

/-- R180: with both keys unchanged `FREQUPD` changes nothing and does not call the host. -/
def Obligations.FrequpdMemoised : Prop :=
  ∀ (s : State) (v : SoundState), Active s v →
    v.memoD = some ⟨s.ports.sndFreq, s.ports.clkSel, s.ports.tickRate⟩ →
    v.memoS = some ⟨s.ports.sndFreq, s.ports.clkSel, v.hostRate⟩ → exec .frequpd s = .next s

/-- R180, R131: a second `FREQUPD` with the same registers changes nothing. -/
def Obligations.FrequpdTwiceIsOnce : Prop :=
  ∀ s t : State, exec .frequpd s = .next t → exec .frequpd t = .next t

/-- `FREQUPD` (R180, R171, R131): with a new key of `memoS` both rates, their keys, the flush that ends on an empty round, and
what it leaves; with a new key of `memoD` alone `dmaRate` and that key, the host not called; refused in `Uninit`. -/
def Obligations.FrequpdRecomputes : Prop :=
  (∀ (s : State) (v : SoundState), Active s v → v.memoS ≠ some ⟨s.ports.sndFreq, s.ports.clkSel, v.hostRate⟩ →
    ∃ v' h', exec .frequpd s = .next { s with sound := some v', host := h' } ∧
      v'.memoD = some ⟨s.ports.sndFreq, s.ports.clkSel, s.ports.tickRate⟩ ∧
      v'.dmaRate = (if v.memoD = some ⟨s.ports.sndFreq, s.ports.clkSel, s.ports.tickRate⟩ then v.dmaRate
        else max 1 (16 * s.ports.tickRate / srcRateOf s.params s.ports.sndFreq s.ports.clkSel)) ∧
      v'.memoS = some ⟨s.ports.sndFreq, s.ports.clkSel, v.hostRate⟩ ∧
      v'.resampleStep = max 1 (srcRateOf s.params s.ports.sndFreq s.ports.clkSel * 2 ^ 19 / v.hostRate.toNat) ∧
      v'.outputScale = 2 ^ 25 / v'.resampleStep ∧
      v'.batchSize = v.batchSize ∧ v'.stereoSense = v.stereoSense ∧ v'.hostRate = v.hostRate ∧
      v'.logTable = v.logTable ∧ v'.panMatrix = v.panMatrix ∧ v'.ring <:+ v.ring ∧
      h'.initAnswer = s.host.initAnswer ∧ s.host.calls <+: h'.calls ∧ EndsOnEmptyRound h'.calls) ∧
  (∀ (s : State) (v : SoundState), Active s v → v.memoS = some ⟨s.ports.sndFreq, s.ports.clkSel, v.hostRate⟩ →
    v.memoD ≠ some ⟨s.ports.sndFreq, s.ports.clkSel, s.ports.tickRate⟩ →
    exec .frequpd s = .next { s with sound := some { v with
      dmaRate := max 1 (16 * s.ports.tickRate / srcRateOf s.params s.ports.sndFreq s.ports.clkSel)
      memoD := some ⟨s.ports.sndFreq, s.ports.clkSel, s.ports.tickRate⟩ } }) ∧
  (∀ s : State, Uninit s → exec .frequpd s = .refused .notActive) ∧
  decode 0x05000000 = .ok .frequpd

/-- R132, R228: the flush of `FREQUPD` and of `RATEUPD` is `MIX` issued some number of times, so with the OLD coefficients:
ring, `resampleTime`, `fudgeRate` and the host are what those leave. -/
def Obligations.FlushIsRepeatedMix : Prop :=
  ∀ (s t : State) (v v' : SoundState) (i : Instr) (key : StepKey), Active s v →
    (i = .frequpd ∧ key = ⟨s.ports.sndFreq, s.ports.clkSel, v.hostRate⟩ ∨
      i = .rateupd ∧ key = ⟨s.ports.sndFreq, s.ports.clkSel, s.ports.hostRateIn⟩) →
    v.memoS ≠ some key → exec i s = .next t → t.sound = some v' →
    ∃ n u w, 1 ≤ n ∧ mixTimes n s = .next u ∧ u.sound = some w ∧
      v'.ring = w.ring ∧ v'.resampleTime = w.resampleTime ∧ v'.fudgeRate = w.fudgeRate ∧ t.host = u.host

/-- `RATEUPD` (R181): the new rate, and with a new key the coefficients; `dmaRate` is not touched; an unchanged rate changes
nothing; a zero rate is refused. -/
def Obligations.RateupdTakesTheNewRate : Prop :=
  (∀ (s : State) (v : SoundState), Active s v → s.ports.hostRateIn ≠ 0 →
    v.memoS ≠ some ⟨s.ports.sndFreq, s.ports.clkSel, s.ports.hostRateIn⟩ →
    ∃ v' h', exec .rateupd s = .next { s with sound := some v', host := h' } ∧
      v'.hostRate = s.ports.hostRateIn ∧
      v'.memoS = some ⟨s.ports.sndFreq, s.ports.clkSel, s.ports.hostRateIn⟩ ∧
      v'.resampleStep = max 1 (srcRateOf s.params s.ports.sndFreq s.ports.clkSel * 2 ^ 19 / s.ports.hostRateIn.toNat) ∧
      v'.outputScale = 2 ^ 25 / v'.resampleStep ∧
      v'.dmaRate = v.dmaRate ∧ v'.memoD = v.memoD ∧ v'.batchSize = v.batchSize ∧ v'.stereoSense = v.stereoSense ∧
      v'.logTable = v.logTable ∧ v'.panMatrix = v.panMatrix ∧ v'.ring <:+ v.ring ∧
      h'.initAnswer = s.host.initAnswer ∧ s.host.calls <+: h'.calls ∧ EndsOnEmptyRound h'.calls) ∧
  (∀ (s : State) (v : SoundState), Active s v → s.ports.hostRateIn ≠ 0 →
    v.memoS = some ⟨s.ports.sndFreq, s.ports.clkSel, s.ports.hostRateIn⟩ →
    exec .rateupd s = .next { s with sound := some { v with hostRate := s.ports.hostRateIn } }) ∧
  (∀ (s : State) (v : SoundState), Active s v → s.ports.hostRateIn = 0 → exec .rateupd s = .refused .zeroRate) ∧
  (∀ s : State, Uninit s → exec .rateupd s = .refused .notActive) ∧
  decode 0x06000000 = .ok .rateupd

/-! ## The rate controller (44_rate_control.md) -/

/-- R161: the five cases as a chain. -/
def Obligations.ClassifyCases : Prop :=
  ∀ (p : Params) (f : Int) (used cap attempted : Nat),
    (used = 0 → (p.fudgeStep : Int) < f → classify p f ⟨used, cap, attempted⟩ = f.tdiv 2) ∧
    (used = 0 → f ≤ p.fudgeStep → classify p f ⟨used, cap, attempted⟩ = f - p.fudgeStep) ∧
    (used ≠ 0 → (cap : Int) - used < attempted →
      (f < -(p.fudgeStep : Int) → classify p f ⟨used, cap, attempted⟩ = f.tdiv 2) ∧
      (-(p.fudgeStep : Int) ≤ f → classify p f ⟨used, cap, attempted⟩ = f + p.fudgeStep)) ∧
    (used ≠ 0 → (attempted : Int) ≤ cap - used →
      (used < cap / 4 → classify p f ⟨used, cap, attempted⟩ = f - p.fudgeNudge) ∧
      (cap / 4 ≤ used → 3 * cap / 4 < used → classify p f ⟨used, cap, attempted⟩ = f + p.fudgeNudge) ∧
      (cap / 4 ≤ used → used ≤ 3 * cap / 4 →
        classify p f ⟨used, cap, attempted⟩ = (if 0 < f then f - 1 else if f < 0 then f + 1 else 0)))

/-- `FEEDBK` (R160): `fudgeRate` from the sampled ports, nothing else; refused in `Uninit`. -/
def Obligations.FeedbkWritesFudgeRate : Prop :=
  (∀ (s : State) (v : SoundState), Active s v →
    exec .feedbk s = .next { s with sound := some { v with
      fudgeRate := classify s.params v.fudgeRate ⟨s.ports.hostUsed, s.ports.hostCap, s.ports.hostAttempted⟩ } }) ∧
  (∀ s : State, Uninit s → exec .feedbk s = .refused .notActive) ∧
  decode 0x0A000000 = .ok .feedbk

/-- `ApplyFeedback` (R162): the host's report, or the ring's occupancy after the drain, or nothing. -/
def Obligations.FeedbackAfterADelivery : Prop :=
  ∀ (p : Params) (v : SoundState),
    (∀ r : Report, applyFeedback p v (some r) = { v with fudgeRate := classify p v.fudgeRate r }) ∧
    (p.hasHostFeedback = false →
      applyFeedback p v none = { v with fudgeRate := classify p v.fudgeRate ⟨v.ring.length, p.ringCap, 0⟩ }) ∧
    (p.hasHostFeedback = true → applyFeedback p v none = v)

/-- R163: underflow and low occupancy lower `fudgeRate`, overflow and high occupancy raise it. -/
def Obligations.FeedbackOpposesTheOccupancy : Prop :=
  ∀ (p : Params) (f : Int) (used cap attempted : Nat), p.WellFormed →
    (used = 0 ∨ ((attempted : Int) ≤ cap - used ∧ used < cap / 4) → classify p f ⟨used, cap, attempted⟩ < f) ∧
    (used ≠ 0 → (cap : Int) - used < attempted ∨ (cap / 4 ≤ used ∧ 3 * cap / 4 < used) →
      f < classify p f ⟨used, cap, attempted⟩)

/-- R165: in the middle of the buffer each report moves `fudgeRate` one unit toward 0, which it reaches after `|f0|`
reports and keeps. -/
def Obligations.FudgeRateConverges : Prop :=
  ∀ (p : Params) (f0 : Int) (used cap attempted n : Nat), 0 < used → cap / 4 ≤ used → used ≤ 3 * cap / 4 →
    (attempted : Int) ≤ cap - used →
    |((fun f => classify p f ⟨used, cap, attempted⟩)^[n] f0)| = max 0 (|f0| - n) ∧
    (f0.natAbs ≤ n → (fun f => classify p f ⟨used, cap, attempted⟩)^[n] f0 = 0)

/-! ## The fetch scheduler (45_fetch_scheduler.md) -/

/-- R171, R173, R176, R178: `TICK` completes in `Active`, and re-arms at `NOW` plus the interval, which is at least 100. -/
def Obligations.TickRearmsTheTimer : Prop :=
  ∀ (s : State) (v : SoundState), Active s v →
    ∃ t v' n, exec .tick s = .next t ∧ t.sound = some v' ∧ t.sched = .armed n ∧ s.ports.now + 100 ≤ n ∧
      (n : Int) = s.ports.now + max 100 ((v'.dmaRate : Int) * batchUnits v + v'.fudgeRate) ∧
      v'.memoD = some ⟨s.ports.sndFreq, s.ports.clkSel, s.ports.tickRate⟩ ∧
      v'.dmaRate = (if v.memoD = some ⟨s.ports.sndFreq, s.ports.clkSel, s.ports.tickRate⟩ then v.dmaRate
        else max 1 (16 * s.ports.tickRate / srcRateOf s.params s.ports.sndFreq s.ports.clkSel)) ∧
      t = { s with sound := some v', sched := .armed n, ports := t.ports, host := t.host }

/-- R174, R175, R177, R179: the pointers, the latch and the interrupt bit after `TICK`, and how many units it fetches. -/
def Obligations.TickMovesThePointers : Prop :=
  ∀ (s : State) (v : SoundState) (past swap : Prop) (base last : Addr) (avail : Nat), Active s v →
    (past ↔ s.ports.dmaEn = true ∧ s.ports.dmaEnd.toNat < s.ports.dmaCur.toNat) →
    (swap ↔ past ∧ s.ports.dmaNextValid = true) →
    (swap → base = s.ports.dmaNextStart ∧ last = s.ports.dmaNextEnd) →
    (past → ¬ swap → base = s.ports.dmaStart ∧ last = s.ports.dmaEnd) →
    (¬ past → base = s.ports.dmaCur ∧ last = s.ports.dmaEnd) →
    (s.ports.dmaEn = false → avail = 0) →
    (s.ports.dmaEn = true → (avail : Int) = max 0 (min (batchUnits v : Int)
      (min (((last.toNat : Int) + 16 - base.toNat) / 16) (((s.params.ringCap : Int) - v.ring.length) / 16)))) →
    ∃ t, exec .tick s = .next t ∧
      t.ports.dmaCur = BitVec.ofNat 32 (base.toNat + 16 * avail) ∧ t.ports.dmaEnd = last ∧
      (swap → t.ports = { s.ports with
        dmaStart := s.ports.dmaNextStart, dmaEnd := s.ports.dmaNextEnd, dmaCur := t.ports.dmaCur, sndIrq := true,
        dmaNextValid := false }) ∧
      (¬ swap → t.ports = { s.ports with dmaCur := t.ports.dmaCur })

/-- R205, R41: the interrupt bit is raised exactly by a swap, and no command clears it. -/
def Obligations.InterruptRaisedExactlyOnASwap : Prop :=
  ∀ (i : Instr) (s t : State), exec i s = .next t →
    (t.ports.sndIrq = true ↔ s.ports.sndIrq = true ∨
      (i = .tick ∧ s.ports.dmaEn = true ∧ s.ports.dmaEnd.toNat < s.ports.dmaCur.toNat ∧ s.ports.dmaNextValid = true))

/-- R175: what is fetched lies inside the buffer, fits the ring, and is at most `srcBatch`. -/
def Obligations.FetchStaysInsideTheBuffer : Prop :=
  ∀ (params : Params) (p : Ports) (v : SoundState),
    availUnits params p v ≤ batchUnits v ∧
    (16 * availUnits params p v : Int) ≤ max 0 ((p.dmaEnd.toNat : Int) + 16 - p.dmaCur.toNat) ∧
    (v.ring.length ≤ params.ringCap → v.ring.length + 16 * availUnits params p v ≤ params.ringCap)

/-- R179: with DMA off `TICK` touches no port and reads no memory. -/
def Obligations.TickWithDmaOff : Prop :=
  ∀ (s : State) (v : SoundState) (m : Memory), Active s v → s.ports.dmaEn = false →
    ∃ t, exec .tick s = .next t ∧ t.ports = s.ports ∧ exec .tick (s.setMem m) = .next (t.setMem m)

/-- R172 step 4: what `TICK` does to the ring and the host is `L2L` of the available units and then `MIX`, after the swap or
wrap and the check of `dmaRate`. -/
def Obligations.TickIsL2lThenMix : Prop :=
  ∀ (s t : State) (v : SoundState), Active s v → v.ringCount ≤ s.params.ringCap → exec .tick s = .next t →
    ∃ avail v1 ports u w, v1 = updateDmaRate s.params s.ports v ∧ ports = swapOrWrap s.ports ∧
      avail = availUnits s.params ports v1 ∧
      exec (.l2l avail) ((s.setSound (some v1)).setPorts ports) = .next u ∧ exec .mix u = .next w ∧
      t.sound = w.sound ∧ t.host = w.host

/-! ## The whole machine -/

/-- R49: who writes what, complete: each field is unchanged by every command that is not listed as its writer; the ports
that are the register layer's, emulated memory, the parameters, the scheduler's answer and the inputs by every command. -/
def Obligations.WritersOfEachField : Prop :=
  ∀ (i : Instr) (s t : State), exec i s = .next t →
    (i ∉ [.init, .shutdown] → t.sound.isSome = s.sound.isSome) ∧
    (i ∉ [.init, .tick, .shutdown] → t.sched = s.sched) ∧
    (i ≠ .shutdown → t.fatal = s.fatal) ∧
    (i ≠ .init → (∀ code, i ≠ .lookup code) → t.result = s.result) ∧
    (i ≠ .tick → t.ports = s.ports) ∧
    t.ports = { s.ports with
      dmaCur := t.ports.dmaCur, dmaStart := t.ports.dmaStart, dmaEnd := t.ports.dmaEnd,
      dmaNextValid := t.ports.dmaNextValid, sndIrq := t.ports.sndIrq } ∧
    t.mem = s.mem ∧ t.params = s.params ∧ t.schedFinds = s.schedFinds ∧ t.inputs = s.inputs ∧
    t.host.initAnswer = s.host.initAnswer ∧
    ∀ v v', s.sound = some v → t.sound = some v' → i ≠ .init →
      v'.batchSize = v.batchSize ∧ v'.stereoSense = v.stereoSense ∧ v'.logTable = v.logTable ∧
      (i ≠ .rateupd → v'.hostRate = v.hostRate) ∧
      (i ∉ [.frequpd, .tick] → v'.dmaRate = v.dmaRate ∧ v'.memoD = v.memoD) ∧
      (i ∉ [.frequpd, .rateupd] →
        v'.resampleStep = v.resampleStep ∧ v'.outputScale = v.outputScale ∧ v'.memoS = v.memoS) ∧
      (i ≠ .panupd → v'.panMatrix = v.panMatrix) ∧
      (i ∉ [.mix, .tick, .frequpd, .rateupd] → (∀ avail, i ≠ .l2l avail) → v'.ring = v.ring) ∧
      (i ∉ [.mix, .tick, .frequpd, .rateupd] → v'.resampleTime = v.resampleTime) ∧
      (i ∉ [.feedbk, .mix, .tick, .frequpd, .rateupd] → v'.fudgeRate = v.fudgeRate)

/-- R47 and what it rests on (`StateInv`): kept by every step from every state that meets it, an external agent's step too. -/
def Obligations.StepKeepsTheInvariant : Prop :=
  ∀ s t : State, StateInv s → step s = .next t → StateInv t

/-- The state at reset meets the invariant. -/
def Obligations.ResetMeetsTheInvariant : Prop := StateInv State.reset

/-- 20_memory.md R61: a byte written by the register layer is what is read, and every other byte reads as before. (The
write keeps the canonical form: `StepKeepsTheInvariant`.) -/
def Obligations.MemoryReadAfterWrite : Prop :=
  ∀ (m : Memory) (a c : Addr) (b : Byte), m.wf →
    Memory.read (Memory.write m a b) c = (if c = a then b else Memory.read m c)
end

