-- ==== Sys2Proof/Laws/State.lean ====
section
/-! SUPPORT. One lemma per field per update: what each setter of Machine/Ops.lean, Machine/Flags.lean and the port updates
of Machine/Scheduler.lean leave in each field. -/

namespace Sys2Proof.Machine

section StateFields
variable (s : State)

@[simp] theorem State.setSound_sound (x : Option SoundState) : (s.setSound x).sound = x := rfl
@[simp] theorem State.setSound_sched (x : Option SoundState) : (s.setSound x).sched = s.sched := rfl
@[simp] theorem State.setSound_fatal (x : Option SoundState) : (s.setSound x).fatal = s.fatal := rfl
@[simp] theorem State.setSound_result (x : Option SoundState) : (s.setSound x).result = s.result := rfl
@[simp] theorem State.setSound_ports (x : Option SoundState) : (s.setSound x).ports = s.ports := rfl
@[simp] theorem State.setSound_mem (x : Option SoundState) : (s.setSound x).mem = s.mem := rfl
@[simp] theorem State.setSound_host (x : Option SoundState) : (s.setSound x).host = s.host := rfl
@[simp] theorem State.setSound_schedFinds (x : Option SoundState) : (s.setSound x).schedFinds = s.schedFinds := rfl
@[simp] theorem State.setSound_params (x : Option SoundState) : (s.setSound x).params = s.params := rfl
@[simp] theorem State.setSound_inputs (x : Option SoundState) : (s.setSound x).inputs = s.inputs := rfl

@[simp] theorem State.setSched_sound (x : Sched) : (s.setSched x).sound = s.sound := rfl
@[simp] theorem State.setSched_sched (x : Sched) : (s.setSched x).sched = x := rfl
@[simp] theorem State.setSched_fatal (x : Sched) : (s.setSched x).fatal = s.fatal := rfl
@[simp] theorem State.setSched_result (x : Sched) : (s.setSched x).result = s.result := rfl
@[simp] theorem State.setSched_ports (x : Sched) : (s.setSched x).ports = s.ports := rfl
@[simp] theorem State.setSched_mem (x : Sched) : (s.setSched x).mem = s.mem := rfl
@[simp] theorem State.setSched_host (x : Sched) : (s.setSched x).host = s.host := rfl
@[simp] theorem State.setSched_schedFinds (x : Sched) : (s.setSched x).schedFinds = s.schedFinds := rfl
@[simp] theorem State.setSched_params (x : Sched) : (s.setSched x).params = s.params := rfl
@[simp] theorem State.setSched_inputs (x : Sched) : (s.setSched x).inputs = s.inputs := rfl

@[simp] theorem State.setResult_sound (x : Int) : (s.setResult x).sound = s.sound := rfl
@[simp] theorem State.setResult_sched (x : Int) : (s.setResult x).sched = s.sched := rfl
@[simp] theorem State.setResult_fatal (x : Int) : (s.setResult x).fatal = s.fatal := rfl
@[simp] theorem State.setResult_result (x : Int) : (s.setResult x).result = x := rfl
@[simp] theorem State.setResult_ports (x : Int) : (s.setResult x).ports = s.ports := rfl
@[simp] theorem State.setResult_mem (x : Int) : (s.setResult x).mem = s.mem := rfl
@[simp] theorem State.setResult_host (x : Int) : (s.setResult x).host = s.host := rfl
@[simp] theorem State.setResult_schedFinds (x : Int) : (s.setResult x).schedFinds = s.schedFinds := rfl
@[simp] theorem State.setResult_params (x : Int) : (s.setResult x).params = s.params := rfl
@[simp] theorem State.setResult_inputs (x : Int) : (s.setResult x).inputs = s.inputs := rfl

@[simp] theorem State.setPorts_sound (x : Ports) : (s.setPorts x).sound = s.sound := rfl
@[simp] theorem State.setPorts_sched (x : Ports) : (s.setPorts x).sched = s.sched := rfl
@[simp] theorem State.setPorts_fatal (x : Ports) : (s.setPorts x).fatal = s.fatal := rfl
@[simp] theorem State.setPorts_result (x : Ports) : (s.setPorts x).result = s.result := rfl
@[simp] theorem State.setPorts_ports (x : Ports) : (s.setPorts x).ports = x := rfl
@[simp] theorem State.setPorts_mem (x : Ports) : (s.setPorts x).mem = s.mem := rfl
@[simp] theorem State.setPorts_host (x : Ports) : (s.setPorts x).host = s.host := rfl
@[simp] theorem State.setPorts_schedFinds (x : Ports) : (s.setPorts x).schedFinds = s.schedFinds := rfl
@[simp] theorem State.setPorts_params (x : Ports) : (s.setPorts x).params = s.params := rfl
@[simp] theorem State.setPorts_inputs (x : Ports) : (s.setPorts x).inputs = s.inputs := rfl

@[simp] theorem State.setMem_sound (x : Memory) : (s.setMem x).sound = s.sound := rfl
@[simp] theorem State.setMem_sched (x : Memory) : (s.setMem x).sched = s.sched := rfl
@[simp] theorem State.setMem_fatal (x : Memory) : (s.setMem x).fatal = s.fatal := rfl
@[simp] theorem State.setMem_result (x : Memory) : (s.setMem x).result = s.result := rfl
@[simp] theorem State.setMem_ports (x : Memory) : (s.setMem x).ports = s.ports := rfl
@[simp] theorem State.setMem_mem (x : Memory) : (s.setMem x).mem = x := rfl
@[simp] theorem State.setMem_host (x : Memory) : (s.setMem x).host = s.host := rfl
@[simp] theorem State.setMem_schedFinds (x : Memory) : (s.setMem x).schedFinds = s.schedFinds := rfl
@[simp] theorem State.setMem_params (x : Memory) : (s.setMem x).params = s.params := rfl
@[simp] theorem State.setMem_inputs (x : Memory) : (s.setMem x).inputs = s.inputs := rfl

@[simp] theorem State.setHost_sound (x : HostSink) : (s.setHost x).sound = s.sound := rfl
@[simp] theorem State.setHost_sched (x : HostSink) : (s.setHost x).sched = s.sched := rfl
@[simp] theorem State.setHost_fatal (x : HostSink) : (s.setHost x).fatal = s.fatal := rfl
@[simp] theorem State.setHost_result (x : HostSink) : (s.setHost x).result = s.result := rfl
@[simp] theorem State.setHost_ports (x : HostSink) : (s.setHost x).ports = s.ports := rfl
@[simp] theorem State.setHost_mem (x : HostSink) : (s.setHost x).mem = s.mem := rfl
@[simp] theorem State.setHost_host (x : HostSink) : (s.setHost x).host = x := rfl
@[simp] theorem State.setHost_schedFinds (x : HostSink) : (s.setHost x).schedFinds = s.schedFinds := rfl
@[simp] theorem State.setHost_params (x : HostSink) : (s.setHost x).params = s.params := rfl
@[simp] theorem State.setHost_inputs (x : HostSink) : (s.setHost x).inputs = s.inputs := rfl

@[simp] theorem State.setSchedFinds_sound (x : Bool) : (s.setSchedFinds x).sound = s.sound := rfl
@[simp] theorem State.setSchedFinds_sched (x : Bool) : (s.setSchedFinds x).sched = s.sched := rfl
@[simp] theorem State.setSchedFinds_fatal (x : Bool) : (s.setSchedFinds x).fatal = s.fatal := rfl
@[simp] theorem State.setSchedFinds_result (x : Bool) : (s.setSchedFinds x).result = s.result := rfl
@[simp] theorem State.setSchedFinds_ports (x : Bool) : (s.setSchedFinds x).ports = s.ports := rfl
@[simp] theorem State.setSchedFinds_mem (x : Bool) : (s.setSchedFinds x).mem = s.mem := rfl
@[simp] theorem State.setSchedFinds_host (x : Bool) : (s.setSchedFinds x).host = s.host := rfl
@[simp] theorem State.setSchedFinds_schedFinds (x : Bool) : (s.setSchedFinds x).schedFinds = x := rfl
@[simp] theorem State.setSchedFinds_params (x : Bool) : (s.setSchedFinds x).params = s.params := rfl
@[simp] theorem State.setSchedFinds_inputs (x : Bool) : (s.setSchedFinds x).inputs = s.inputs := rfl

@[simp] theorem State.setInputs_sound (x : List Input) : (s.setInputs x).sound = s.sound := rfl
@[simp] theorem State.setInputs_sched (x : List Input) : (s.setInputs x).sched = s.sched := rfl
@[simp] theorem State.setInputs_fatal (x : List Input) : (s.setInputs x).fatal = s.fatal := rfl
@[simp] theorem State.setInputs_result (x : List Input) : (s.setInputs x).result = s.result := rfl
@[simp] theorem State.setInputs_ports (x : List Input) : (s.setInputs x).ports = s.ports := rfl
@[simp] theorem State.setInputs_mem (x : List Input) : (s.setInputs x).mem = s.mem := rfl
@[simp] theorem State.setInputs_host (x : List Input) : (s.setInputs x).host = s.host := rfl
@[simp] theorem State.setInputs_schedFinds (x : List Input) : (s.setInputs x).schedFinds = s.schedFinds := rfl
@[simp] theorem State.setInputs_params (x : List Input) : (s.setInputs x).params = s.params := rfl
@[simp] theorem State.setInputs_inputs (x : List Input) : (s.setInputs x).inputs = x := rfl

@[simp] theorem State.setFatal_sound : (s.setFatal).sound = s.sound := rfl
@[simp] theorem State.setFatal_sched : (s.setFatal).sched = s.sched := rfl
@[simp] theorem State.setFatal_fatal : (s.setFatal).fatal = true := rfl
@[simp] theorem State.setFatal_result : (s.setFatal).result = s.result := rfl
@[simp] theorem State.setFatal_ports : (s.setFatal).ports = s.ports := rfl
@[simp] theorem State.setFatal_mem : (s.setFatal).mem = s.mem := rfl
@[simp] theorem State.setFatal_host : (s.setFatal).host = s.host := rfl
@[simp] theorem State.setFatal_schedFinds : (s.setFatal).schedFinds = s.schedFinds := rfl
@[simp] theorem State.setFatal_params : (s.setFatal).params = s.params := rfl
@[simp] theorem State.setFatal_inputs : (s.setFatal).inputs = s.inputs := rfl

end StateFields

section SoundStateFields
variable (v : SoundState)

@[simp] theorem SoundState.setFudge_batchSize (x : Int) : (v.setFudge x).batchSize = v.batchSize := rfl
@[simp] theorem SoundState.setFudge_dmaRate (x : Int) : (v.setFudge x).dmaRate = v.dmaRate := rfl
@[simp] theorem SoundState.setFudge_stereoSense (x : Int) : (v.setFudge x).stereoSense = v.stereoSense := rfl
@[simp] theorem SoundState.setFudge_fudgeRate (x : Int) : (v.setFudge x).fudgeRate = x := rfl
@[simp] theorem SoundState.setFudge_hostRate (x : Int) : (v.setFudge x).hostRate = v.hostRate := rfl
@[simp] theorem SoundState.setFudge_logTable (x : Int) : (v.setFudge x).logTable = v.logTable := rfl
@[simp] theorem SoundState.setFudge_panMatrix (x : Int) : (v.setFudge x).panMatrix = v.panMatrix := rfl
@[simp] theorem SoundState.setFudge_ring (x : Int) : (v.setFudge x).ring = v.ring := rfl
@[simp] theorem SoundState.setFudge_resampleTime (x : Int) : (v.setFudge x).resampleTime = v.resampleTime := rfl
@[simp] theorem SoundState.setFudge_resampleStep (x : Int) : (v.setFudge x).resampleStep = v.resampleStep := rfl
@[simp] theorem SoundState.setFudge_outputScale (x : Int) : (v.setFudge x).outputScale = v.outputScale := rfl
@[simp] theorem SoundState.setFudge_memoD (x : Int) : (v.setFudge x).memoD = v.memoD := rfl
@[simp] theorem SoundState.setFudge_memoS (x : Int) : (v.setFudge x).memoS = v.memoS := rfl

@[simp] theorem SoundState.setPan_batchSize (x : Vector Gain 8) : (v.setPan x).batchSize = v.batchSize := rfl
@[simp] theorem SoundState.setPan_dmaRate (x : Vector Gain 8) : (v.setPan x).dmaRate = v.dmaRate := rfl
@[simp] theorem SoundState.setPan_stereoSense (x : Vector Gain 8) : (v.setPan x).stereoSense = v.stereoSense := rfl
@[simp] theorem SoundState.setPan_fudgeRate (x : Vector Gain 8) : (v.setPan x).fudgeRate = v.fudgeRate := rfl
@[simp] theorem SoundState.setPan_hostRate (x : Vector Gain 8) : (v.setPan x).hostRate = v.hostRate := rfl
@[simp] theorem SoundState.setPan_logTable (x : Vector Gain 8) : (v.setPan x).logTable = v.logTable := rfl
@[simp] theorem SoundState.setPan_panMatrix (x : Vector Gain 8) : (v.setPan x).panMatrix = x := rfl
@[simp] theorem SoundState.setPan_ring (x : Vector Gain 8) : (v.setPan x).ring = v.ring := rfl
@[simp] theorem SoundState.setPan_resampleTime (x : Vector Gain 8) : (v.setPan x).resampleTime = v.resampleTime := rfl
@[simp] theorem SoundState.setPan_resampleStep (x : Vector Gain 8) : (v.setPan x).resampleStep = v.resampleStep := rfl
@[simp] theorem SoundState.setPan_outputScale (x : Vector Gain 8) : (v.setPan x).outputScale = v.outputScale := rfl
@[simp] theorem SoundState.setPan_memoD (x : Vector Gain 8) : (v.setPan x).memoD = v.memoD := rfl
@[simp] theorem SoundState.setPan_memoS (x : Vector Gain 8) : (v.setPan x).memoS = v.memoS := rfl

@[simp] theorem SoundState.setRing_batchSize (x : List Pair) : (v.setRing x).batchSize = v.batchSize := rfl
@[simp] theorem SoundState.setRing_dmaRate (x : List Pair) : (v.setRing x).dmaRate = v.dmaRate := rfl
@[simp] theorem SoundState.setRing_stereoSense (x : List Pair) : (v.setRing x).stereoSense = v.stereoSense := rfl
@[simp] theorem SoundState.setRing_fudgeRate (x : List Pair) : (v.setRing x).fudgeRate = v.fudgeRate := rfl
@[simp] theorem SoundState.setRing_hostRate (x : List Pair) : (v.setRing x).hostRate = v.hostRate := rfl
@[simp] theorem SoundState.setRing_logTable (x : List Pair) : (v.setRing x).logTable = v.logTable := rfl
@[simp] theorem SoundState.setRing_panMatrix (x : List Pair) : (v.setRing x).panMatrix = v.panMatrix := rfl
@[simp] theorem SoundState.setRing_ring (x : List Pair) : (v.setRing x).ring = x := rfl
@[simp] theorem SoundState.setRing_resampleTime (x : List Pair) : (v.setRing x).resampleTime = v.resampleTime := rfl
@[simp] theorem SoundState.setRing_resampleStep (x : List Pair) : (v.setRing x).resampleStep = v.resampleStep := rfl
@[simp] theorem SoundState.setRing_outputScale (x : List Pair) : (v.setRing x).outputScale = v.outputScale := rfl
@[simp] theorem SoundState.setRing_memoD (x : List Pair) : (v.setRing x).memoD = v.memoD := rfl
@[simp] theorem SoundState.setRing_memoS (x : List Pair) : (v.setRing x).memoS = v.memoS := rfl

@[simp] theorem SoundState.setTime_batchSize (x : Nat) : (v.setTime x).batchSize = v.batchSize := rfl
@[simp] theorem SoundState.setTime_dmaRate (x : Nat) : (v.setTime x).dmaRate = v.dmaRate := rfl
@[simp] theorem SoundState.setTime_stereoSense (x : Nat) : (v.setTime x).stereoSense = v.stereoSense := rfl
@[simp] theorem SoundState.setTime_fudgeRate (x : Nat) : (v.setTime x).fudgeRate = v.fudgeRate := rfl
@[simp] theorem SoundState.setTime_hostRate (x : Nat) : (v.setTime x).hostRate = v.hostRate := rfl
@[simp] theorem SoundState.setTime_logTable (x : Nat) : (v.setTime x).logTable = v.logTable := rfl
@[simp] theorem SoundState.setTime_panMatrix (x : Nat) : (v.setTime x).panMatrix = v.panMatrix := rfl
@[simp] theorem SoundState.setTime_ring (x : Nat) : (v.setTime x).ring = v.ring := rfl
@[simp] theorem SoundState.setTime_resampleTime (x : Nat) : (v.setTime x).resampleTime = x := rfl
@[simp] theorem SoundState.setTime_resampleStep (x : Nat) : (v.setTime x).resampleStep = v.resampleStep := rfl
@[simp] theorem SoundState.setTime_outputScale (x : Nat) : (v.setTime x).outputScale = v.outputScale := rfl
@[simp] theorem SoundState.setTime_memoD (x : Nat) : (v.setTime x).memoD = v.memoD := rfl
@[simp] theorem SoundState.setTime_memoS (x : Nat) : (v.setTime x).memoS = v.memoS := rfl

@[simp] theorem SoundState.setHostRate_batchSize (x : BitVec 32) : (v.setHostRate x).batchSize = v.batchSize := rfl
@[simp] theorem SoundState.setHostRate_dmaRate (x : BitVec 32) : (v.setHostRate x).dmaRate = v.dmaRate := rfl
@[simp] theorem SoundState.setHostRate_stereoSense (x : BitVec 32) : (v.setHostRate x).stereoSense = v.stereoSense := rfl
@[simp] theorem SoundState.setHostRate_fudgeRate (x : BitVec 32) : (v.setHostRate x).fudgeRate = v.fudgeRate := rfl
@[simp] theorem SoundState.setHostRate_hostRate (x : BitVec 32) : (v.setHostRate x).hostRate = x := rfl
@[simp] theorem SoundState.setHostRate_logTable (x : BitVec 32) : (v.setHostRate x).logTable = v.logTable := rfl
@[simp] theorem SoundState.setHostRate_panMatrix (x : BitVec 32) : (v.setHostRate x).panMatrix = v.panMatrix := rfl
@[simp] theorem SoundState.setHostRate_ring (x : BitVec 32) : (v.setHostRate x).ring = v.ring := rfl
@[simp] theorem SoundState.setHostRate_resampleTime (x : BitVec 32) : (v.setHostRate x).resampleTime = v.resampleTime := rfl
@[simp] theorem SoundState.setHostRate_resampleStep (x : BitVec 32) : (v.setHostRate x).resampleStep = v.resampleStep := rfl
@[simp] theorem SoundState.setHostRate_outputScale (x : BitVec 32) : (v.setHostRate x).outputScale = v.outputScale := rfl
@[simp] theorem SoundState.setHostRate_memoD (x : BitVec 32) : (v.setHostRate x).memoD = v.memoD := rfl
@[simp] theorem SoundState.setHostRate_memoS (x : BitVec 32) : (v.setHostRate x).memoS = v.memoS := rfl

@[simp] theorem SoundState.setDmaRate_batchSize (x : Nat) (k : DmaKey) : (v.setDmaRate x k).batchSize = v.batchSize := rfl
@[simp] theorem SoundState.setDmaRate_dmaRate (x : Nat) (k : DmaKey) : (v.setDmaRate x k).dmaRate = x := rfl
@[simp] theorem SoundState.setDmaRate_stereoSense (x : Nat) (k : DmaKey) : (v.setDmaRate x k).stereoSense = v.stereoSense := rfl
@[simp] theorem SoundState.setDmaRate_fudgeRate (x : Nat) (k : DmaKey) : (v.setDmaRate x k).fudgeRate = v.fudgeRate := rfl
@[simp] theorem SoundState.setDmaRate_hostRate (x : Nat) (k : DmaKey) : (v.setDmaRate x k).hostRate = v.hostRate := rfl
@[simp] theorem SoundState.setDmaRate_logTable (x : Nat) (k : DmaKey) : (v.setDmaRate x k).logTable = v.logTable := rfl
@[simp] theorem SoundState.setDmaRate_panMatrix (x : Nat) (k : DmaKey) : (v.setDmaRate x k).panMatrix = v.panMatrix := rfl
@[simp] theorem SoundState.setDmaRate_ring (x : Nat) (k : DmaKey) : (v.setDmaRate x k).ring = v.ring := rfl
@[simp] theorem SoundState.setDmaRate_resampleTime (x : Nat) (k : DmaKey) : (v.setDmaRate x k).resampleTime = v.resampleTime := rfl
@[simp] theorem SoundState.setDmaRate_resampleStep (x : Nat) (k : DmaKey) : (v.setDmaRate x k).resampleStep = v.resampleStep := rfl
@[simp] theorem SoundState.setDmaRate_outputScale (x : Nat) (k : DmaKey) : (v.setDmaRate x k).outputScale = v.outputScale := rfl
@[simp] theorem SoundState.setDmaRate_memoD (x : Nat) (k : DmaKey) : (v.setDmaRate x k).memoD = some k := rfl
@[simp] theorem SoundState.setDmaRate_memoS (x : Nat) (k : DmaKey) : (v.setDmaRate x k).memoS = v.memoS := rfl

@[simp] theorem SoundState.setStep_batchSize (x y : Nat) (k : StepKey) : (v.setStep x y k).batchSize = v.batchSize := rfl
@[simp] theorem SoundState.setStep_dmaRate (x y : Nat) (k : StepKey) : (v.setStep x y k).dmaRate = v.dmaRate := rfl
@[simp] theorem SoundState.setStep_stereoSense (x y : Nat) (k : StepKey) : (v.setStep x y k).stereoSense = v.stereoSense := rfl
@[simp] theorem SoundState.setStep_fudgeRate (x y : Nat) (k : StepKey) : (v.setStep x y k).fudgeRate = v.fudgeRate := rfl
@[simp] theorem SoundState.setStep_hostRate (x y : Nat) (k : StepKey) : (v.setStep x y k).hostRate = v.hostRate := rfl
@[simp] theorem SoundState.setStep_logTable (x y : Nat) (k : StepKey) : (v.setStep x y k).logTable = v.logTable := rfl
@[simp] theorem SoundState.setStep_panMatrix (x y : Nat) (k : StepKey) : (v.setStep x y k).panMatrix = v.panMatrix := rfl
@[simp] theorem SoundState.setStep_ring (x y : Nat) (k : StepKey) : (v.setStep x y k).ring = v.ring := rfl
@[simp] theorem SoundState.setStep_resampleTime (x y : Nat) (k : StepKey) : (v.setStep x y k).resampleTime = v.resampleTime := rfl
@[simp] theorem SoundState.setStep_resampleStep (x y : Nat) (k : StepKey) : (v.setStep x y k).resampleStep = x := rfl
@[simp] theorem SoundState.setStep_outputScale (x y : Nat) (k : StepKey) : (v.setStep x y k).outputScale = y := rfl
@[simp] theorem SoundState.setStep_memoD (x y : Nat) (k : StepKey) : (v.setStep x y k).memoD = v.memoD := rfl
@[simp] theorem SoundState.setStep_memoS (x y : Nat) (k : StepKey) : (v.setStep x y k).memoS = some k := rfl

end SoundStateFields

section PortsFields
variable (p : Ports)

@[simp] theorem Ports.raiseIrq_dmaCur : (p.raiseIrq).dmaCur = p.dmaCur := rfl
@[simp] theorem Ports.raiseIrq_dmaStart : (p.raiseIrq).dmaStart = p.dmaStart := rfl
@[simp] theorem Ports.raiseIrq_dmaEnd : (p.raiseIrq).dmaEnd = p.dmaEnd := rfl
@[simp] theorem Ports.raiseIrq_dmaNextStart : (p.raiseIrq).dmaNextStart = p.dmaNextStart := rfl
@[simp] theorem Ports.raiseIrq_dmaNextEnd : (p.raiseIrq).dmaNextEnd = p.dmaNextEnd := rfl
@[simp] theorem Ports.raiseIrq_dmaNextValid : (p.raiseIrq).dmaNextValid = p.dmaNextValid := rfl
@[simp] theorem Ports.raiseIrq_dmaEn : (p.raiseIrq).dmaEn = p.dmaEn := rfl
@[simp] theorem Ports.raiseIrq_sndIrq : (p.raiseIrq).sndIrq = true := rfl
@[simp] theorem Ports.raiseIrq_sndFreq : (p.raiseIrq).sndFreq = p.sndFreq := rfl
@[simp] theorem Ports.raiseIrq_clkSel : (p.raiseIrq).clkSel = p.clkSel := rfl
@[simp] theorem Ports.raiseIrq_panReg : (p.raiseIrq).panReg = p.panReg := rfl
@[simp] theorem Ports.raiseIrq_tickRate : (p.raiseIrq).tickRate = p.tickRate := rfl
@[simp] theorem Ports.raiseIrq_now : (p.raiseIrq).now = p.now := rfl
@[simp] theorem Ports.raiseIrq_hostUsed : (p.raiseIrq).hostUsed = p.hostUsed := rfl
@[simp] theorem Ports.raiseIrq_hostCap : (p.raiseIrq).hostCap = p.hostCap := rfl
@[simp] theorem Ports.raiseIrq_hostAttempted : (p.raiseIrq).hostAttempted = p.hostAttempted := rfl
@[simp] theorem Ports.raiseIrq_hostRateIn : (p.raiseIrq).hostRateIn = p.hostRateIn := rfl

@[simp] theorem Ports.clearLatch_dmaCur : (p.clearLatch).dmaCur = p.dmaCur := rfl
@[simp] theorem Ports.clearLatch_dmaStart : (p.clearLatch).dmaStart = p.dmaStart := rfl
@[simp] theorem Ports.clearLatch_dmaEnd : (p.clearLatch).dmaEnd = p.dmaEnd := rfl
@[simp] theorem Ports.clearLatch_dmaNextStart : (p.clearLatch).dmaNextStart = p.dmaNextStart := rfl
@[simp] theorem Ports.clearLatch_dmaNextEnd : (p.clearLatch).dmaNextEnd = p.dmaNextEnd := rfl
@[simp] theorem Ports.clearLatch_dmaNextValid : (p.clearLatch).dmaNextValid = false := rfl
@[simp] theorem Ports.clearLatch_dmaEn : (p.clearLatch).dmaEn = p.dmaEn := rfl
@[simp] theorem Ports.clearLatch_sndIrq : (p.clearLatch).sndIrq = p.sndIrq := rfl
@[simp] theorem Ports.clearLatch_sndFreq : (p.clearLatch).sndFreq = p.sndFreq := rfl
@[simp] theorem Ports.clearLatch_clkSel : (p.clearLatch).clkSel = p.clkSel := rfl
@[simp] theorem Ports.clearLatch_panReg : (p.clearLatch).panReg = p.panReg := rfl
@[simp] theorem Ports.clearLatch_tickRate : (p.clearLatch).tickRate = p.tickRate := rfl
@[simp] theorem Ports.clearLatch_now : (p.clearLatch).now = p.now := rfl
@[simp] theorem Ports.clearLatch_hostUsed : (p.clearLatch).hostUsed = p.hostUsed := rfl
@[simp] theorem Ports.clearLatch_hostCap : (p.clearLatch).hostCap = p.hostCap := rfl
@[simp] theorem Ports.clearLatch_hostAttempted : (p.clearLatch).hostAttempted = p.hostAttempted := rfl
@[simp] theorem Ports.clearLatch_hostRateIn : (p.clearLatch).hostRateIn = p.hostRateIn := rfl

@[simp] theorem swapBuffer_dmaCur : (swapBuffer p).dmaCur = p.dmaNextStart := rfl
@[simp] theorem swapBuffer_dmaStart : (swapBuffer p).dmaStart = p.dmaNextStart := rfl
@[simp] theorem swapBuffer_dmaEnd : (swapBuffer p).dmaEnd = p.dmaNextEnd := rfl
@[simp] theorem swapBuffer_dmaNextStart : (swapBuffer p).dmaNextStart = p.dmaNextStart := rfl
@[simp] theorem swapBuffer_dmaNextEnd : (swapBuffer p).dmaNextEnd = p.dmaNextEnd := rfl
@[simp] theorem swapBuffer_dmaNextValid : (swapBuffer p).dmaNextValid = false := rfl
@[simp] theorem swapBuffer_dmaEn : (swapBuffer p).dmaEn = p.dmaEn := rfl
@[simp] theorem swapBuffer_sndIrq : (swapBuffer p).sndIrq = true := rfl
@[simp] theorem swapBuffer_sndFreq : (swapBuffer p).sndFreq = p.sndFreq := rfl
@[simp] theorem swapBuffer_clkSel : (swapBuffer p).clkSel = p.clkSel := rfl
@[simp] theorem swapBuffer_panReg : (swapBuffer p).panReg = p.panReg := rfl
@[simp] theorem swapBuffer_tickRate : (swapBuffer p).tickRate = p.tickRate := rfl
@[simp] theorem swapBuffer_now : (swapBuffer p).now = p.now := rfl
@[simp] theorem swapBuffer_hostUsed : (swapBuffer p).hostUsed = p.hostUsed := rfl
@[simp] theorem swapBuffer_hostCap : (swapBuffer p).hostCap = p.hostCap := rfl
@[simp] theorem swapBuffer_hostAttempted : (swapBuffer p).hostAttempted = p.hostAttempted := rfl
@[simp] theorem swapBuffer_hostRateIn : (swapBuffer p).hostRateIn = p.hostRateIn := rfl

@[simp] theorem wrapPointer_dmaCur : (wrapPointer p).dmaCur = p.dmaStart := rfl
@[simp] theorem wrapPointer_dmaStart : (wrapPointer p).dmaStart = p.dmaStart := rfl
@[simp] theorem wrapPointer_dmaEnd : (wrapPointer p).dmaEnd = p.dmaEnd := rfl
@[simp] theorem wrapPointer_dmaNextStart : (wrapPointer p).dmaNextStart = p.dmaNextStart := rfl
@[simp] theorem wrapPointer_dmaNextEnd : (wrapPointer p).dmaNextEnd = p.dmaNextEnd := rfl
@[simp] theorem wrapPointer_dmaNextValid : (wrapPointer p).dmaNextValid = p.dmaNextValid := rfl
@[simp] theorem wrapPointer_dmaEn : (wrapPointer p).dmaEn = p.dmaEn := rfl
@[simp] theorem wrapPointer_sndIrq : (wrapPointer p).sndIrq = p.sndIrq := rfl
@[simp] theorem wrapPointer_sndFreq : (wrapPointer p).sndFreq = p.sndFreq := rfl
@[simp] theorem wrapPointer_clkSel : (wrapPointer p).clkSel = p.clkSel := rfl
@[simp] theorem wrapPointer_panReg : (wrapPointer p).panReg = p.panReg := rfl
@[simp] theorem wrapPointer_tickRate : (wrapPointer p).tickRate = p.tickRate := rfl
@[simp] theorem wrapPointer_now : (wrapPointer p).now = p.now := rfl
@[simp] theorem wrapPointer_hostUsed : (wrapPointer p).hostUsed = p.hostUsed := rfl
@[simp] theorem wrapPointer_hostCap : (wrapPointer p).hostCap = p.hostCap := rfl
@[simp] theorem wrapPointer_hostAttempted : (wrapPointer p).hostAttempted = p.hostAttempted := rfl
@[simp] theorem wrapPointer_hostRateIn : (wrapPointer p).hostRateIn = p.hostRateIn := rfl

@[simp] theorem advancePointer_dmaCur (n : Nat) : (advancePointer p n).dmaCur = p.dmaCur + BitVec.ofNat 32 (UNIT_BYTES * n) := rfl
@[simp] theorem advancePointer_dmaStart (n : Nat) : (advancePointer p n).dmaStart = p.dmaStart := rfl
@[simp] theorem advancePointer_dmaEnd (n : Nat) : (advancePointer p n).dmaEnd = p.dmaEnd := rfl
@[simp] theorem advancePointer_dmaNextStart (n : Nat) : (advancePointer p n).dmaNextStart = p.dmaNextStart := rfl
@[simp] theorem advancePointer_dmaNextEnd (n : Nat) : (advancePointer p n).dmaNextEnd = p.dmaNextEnd := rfl
@[simp] theorem advancePointer_dmaNextValid (n : Nat) : (advancePointer p n).dmaNextValid = p.dmaNextValid := rfl
@[simp] theorem advancePointer_dmaEn (n : Nat) : (advancePointer p n).dmaEn = p.dmaEn := rfl
@[simp] theorem advancePointer_sndIrq (n : Nat) : (advancePointer p n).sndIrq = p.sndIrq := rfl
@[simp] theorem advancePointer_sndFreq (n : Nat) : (advancePointer p n).sndFreq = p.sndFreq := rfl
@[simp] theorem advancePointer_clkSel (n : Nat) : (advancePointer p n).clkSel = p.clkSel := rfl
@[simp] theorem advancePointer_panReg (n : Nat) : (advancePointer p n).panReg = p.panReg := rfl
@[simp] theorem advancePointer_tickRate (n : Nat) : (advancePointer p n).tickRate = p.tickRate := rfl
@[simp] theorem advancePointer_now (n : Nat) : (advancePointer p n).now = p.now := rfl
@[simp] theorem advancePointer_hostUsed (n : Nat) : (advancePointer p n).hostUsed = p.hostUsed := rfl
@[simp] theorem advancePointer_hostCap (n : Nat) : (advancePointer p n).hostCap = p.hostCap := rfl
@[simp] theorem advancePointer_hostAttempted (n : Nat) : (advancePointer p n).hostAttempted = p.hostAttempted := rfl
@[simp] theorem advancePointer_hostRateIn (n : Nat) : (advancePointer p n).hostRateIn = p.hostRateIn := rfl

end PortsFields

section HostSinkFields
variable (h : HostSink)

@[simp] theorem HostSink.getBuffer_initAnswer : (h.getBuffer).initAnswer = h.initAnswer := rfl
@[simp] theorem HostSink.getBuffer_lends : (h.getBuffer).lends = h.lends.tail := rfl
@[simp] theorem HostSink.getBuffer_calls : (h.getBuffer).calls = h.calls ++ [.getBuffer h.nextLend.cap] := rfl

@[simp] theorem HostSink.buffered_initAnswer (x : List Pair) (n : Nat) : (h.buffered x n).initAnswer = h.initAnswer := rfl
@[simp] theorem HostSink.buffered_lends (x : List Pair) (n : Nat) : (h.buffered x n).lends = h.lends := rfl
@[simp] theorem HostSink.buffered_calls (x : List Pair) (n : Nat) : (h.buffered x n).calls = h.calls ++ [.buffered x (min n x.length)] := rfl

@[simp] theorem HostSink.callInit_initAnswer : (h.callInit).initAnswer = h.initAnswer := rfl
@[simp] theorem HostSink.callInit_lends : (h.callInit).lends = h.lends := rfl
@[simp] theorem HostSink.callInit_calls : (h.callInit).calls = h.calls ++ [.init] := rfl

@[simp] theorem HostSink.callQuit_initAnswer : (h.callQuit).initAnswer = h.initAnswer := rfl
@[simp] theorem HostSink.callQuit_lends : (h.callQuit).lends = h.lends := rfl
@[simp] theorem HostSink.callQuit_calls : (h.callQuit).calls = h.calls ++ [.quit] := rfl

end HostSinkFields

@[simp] theorem SoundState.ringCount_setRing (v : SoundState) (r : List Pair) : (v.setRing r).ringCount = r.length := rfl

end Sys2Proof.Machine
end

