-- ==== Sys2Proof/Laws/Ops.lean ====
section
/-! SUPPORT. What each shared operation can do, said once: the tests a command begins with, taking the next input, one step,
and the table and pan functions at a code. -/

namespace Sys2Proof.Machine

/-! ## The fixed parameters as numerals (00_scope.md R9), the spelling every other lemma and statement uses -/

@[simp] theorem F_eq : F = 9 := rfl
@[simp] theorem ONE_eq : ONE = 512 := rfl
@[simp] theorem NCHAN_eq : NCHAN = 8 := rfl
@[simp] theorem UNIT_BYTES_eq : UNIT_BYTES = 16 := rfl
@[simp] theorem MIN_INTERVAL_eq : MIN_INTERVAL = 100 := rfl
@[simp] theorem RESERVE_BASE_eq : RESERVE_BASE = 10 := rfl
@[simp] theorem BRANCH_THRESHOLD_eq : BRANCH_THRESHOLD = 8 := rfl

/-- `Weight` with `ONE` as a numeral (43_resampler.md R134). -/
theorem weight_eq (i tq e : Nat) :
    weight i tq e = max 0 (min (e : Int) (((i : Int) + 1) * 512) - max (tq : Int) (((i : Int) - 7) * 512)) := rfl

/-- One sample of the large branch's walk, by cases (43_resampler.md R138). -/
theorem largeWalk_cons (tq e i : Nat) (x : Int) (xs : List Int) (a b : Int) :
    largeWalk tq e i (x :: xs) (a, b) =
      if weight i tq e = 4096 then largeWalk tq e (i + 1) xs (a, b + x)
      else largeWalk tq e (i + 1) xs (a + weight i tq e * x, b) := by
  have h : (8 * ONE : Int) = 4096 := by norm_num
  simp only [largeWalk, h]

/-- The branch of 43_resampler.md R135, with the threshold as a numeral. -/
theorem area_eq (sq tq e : Nat) (samples : List Int) :
    area sq tq e samples = if 4096 < sq then largeArea tq e samples else smallArea tq e samples := by
  simp [area]

/-- `last` with `ONE` as a numeral (43_resampler.md R134). -/
theorem lastPair_eq (e : Nat) : lastPair e = (e - 1) / 512 + 7 := rfl

/-- `reserve` with `ONE` as a numeral (43_resampler.md R141). -/
theorem reserve_eq (sq : Nat) : reserve sq = 10 + (sq + 511) / 512 := by
  simp only [reserve, ceilDiv, ONE_eq, RESERVE_BASE_eq]
  omega

/-- `srcBatch` with `ONE` as a numeral (45_fetch_scheduler.md R173). -/
theorem srcBatch_eq (v : SoundState) : srcBatch v = max 1 ((v.batchSize * v.resampleStep + 511) / 512) := by
  simp only [srcBatch, ceilDiv, ONE_eq]
  omega

/-! ## The tests a command begins with -/

theorem requireActive_of_active {s : State} {v : SoundState} (k : SoundState → Answer) (h : Active s v) :
    requireActive s k = k v := by
  simp [requireActive, h.1, h.2]

theorem requireActive_of_fatal {s : State} (k : SoundState → Answer) (h : s.fatal = true) :
    requireActive s k = .refused .fatalSet := by
  simp [requireActive, h]

theorem requireActive_of_uninit {s : State} (k : SoundState → Answer) (h : Uninit s) :
    requireActive s k = .refused .notActive := by
  simp [requireActive, h.1, h.2]

/-- A command that requires `Active` answers a next state only in an active state, and then as its body does. -/
theorem requireActive_next {s t : State} {k : SoundState → Answer} (h : requireActive s k = .next t) :
    ∃ v, Active s v ∧ k v = .next t := by
  simp only [requireActive] at h
  split at h
  · cases h
  · next hf =>
    split at h
    · cases h
    · next v hv => exact ⟨v, ⟨by simpa using hf, hv⟩, h⟩

theorem requireUninit_of_uninit {s : State} (k : Answer) (h : Uninit s) : requireUninit s k = k := by
  simp [requireUninit, h.1, h.2]

theorem requireUninit_of_fatal {s : State} (k : Answer) (h : s.fatal = true) :
    requireUninit s k = .refused .fatalSet := by
  simp [requireUninit, h]

theorem requireUninit_of_active {s : State} {v : SoundState} (k : Answer) (h : Active s v) :
    requireUninit s k = .refused .notUninit := by
  simp [requireUninit, h.1, h.2]

/-- `INIT` answers a next state only in `Uninit`, and then as its body does. -/
theorem requireUninit_next {s t : State} {k : Answer} (h : requireUninit s k = .next t) : Uninit s ∧ k = .next t := by
  simp only [requireUninit] at h
  split at h
  · cases h
  · next hf =>
    split at h
    · next hv => exact ⟨⟨by simpa using hf, hv⟩, h⟩
    · cases h

/-! ## The next input and one step -/

/-- The state a command is issued in differs from the one before in the inputs, and in `NOW` if the timer issued it. -/
theorem takeInput_issue {s u : State} {i : Instr} (h : takeInput s = .issue i u) :
    ∃ rest p, u = (s.setInputs rest).setPorts p ∧ (p = s.ports ∨ ∃ n, p = { s.ports with now := n }) := by
  simp only [takeInput] at h
  split at h
  · cases h
  · next w rest _ =>
    simp only [issueWord] at h
    split at h
    · injection h with _ h
      exact ⟨rest, s.ports, h.symm, .inl rfl⟩
    · cases h
  · next rest _ =>
    simp only [expireTimer] at h
    split at h
    · cases h
    · next n _ =>
      injection h with _ h
      exact ⟨rest, _, h.symm, .inr ⟨n, rfl⟩⟩
  · cases h

/-- What an external agent leaves: the inputs with the first taken off, or that with one write done. -/
theorem takeInput_acted {s u : State} (h : takeInput s = .acted u) :
    ∃ rest, u = s.setInputs rest ∨ ∃ x, u = (s.setInputs rest).external x := by
  simp only [takeInput] at h
  split at h
  · cases h
  · simp only [issueWord] at h
    split at h <;> cases h
  · next rest _ =>
    simp only [expireTimer] at h
    split at h
    · injection h with h
      exact ⟨rest, .inl h.symm⟩
    · cases h
  · next x rest _ =>
    injection h with h
    exact ⟨rest, .inr ⟨x, h.symm⟩⟩

/-- A step that answers a next state held, let an external agent act, or ran a command. -/
theorem step_next_cases {s t : State} (h : step s = .next t) :
    t = s ∨ takeInput s = .acted t ∨ ∃ i u, takeInput s = .issue i u ∧ exec i u = .next t := by
  simp only [step] at h
  split at h
  · injection h with h
    exact .inl h.symm
  · next u hu =>
    injection h with h
    exact .inr (.inl (h ▸ hu))
  · cases h
  · next i u hu => exact .inr (.inr ⟨i, u, hu, h⟩)

/-- An external agent writes no field of the block. -/
theorem external_block_fields (s : State) (x : ExternalWrite) :
    (s.external x).sound = s.sound ∧ (s.external x).sched = s.sched ∧ (s.external x).fatal = s.fatal ∧
    (s.external x).result = s.result ∧ (s.external x).params = s.params ∧ (s.external x).inputs = s.inputs ∧
    (s.external x).host.calls = s.host.calls := by
  cases x <;> exact ⟨rfl, rfl, rfl, rfl, rfl, rfl, rfl⟩

/-! ## The table and the pan functions -/

/-- The built table at a code is `LogLin` of it (40_lookup.md R105). -/
@[simp] theorem logTable_at (code : Byte) : tableAt logTable code = logLin code := by
  simp [tableAt, logTable]

/-- Entry `ch` of the matrix that the pan registers stand for (41_pan.md R111). -/
@[simp] theorem panMatrixOf_get (sense : StereoSense) (regs : Vector (BitVec 4) 8) (ch : Nat) (h : ch < 8) :
    (panMatrixOf sense regs)[ch] = panGain (effectiveCode sense regs[ch]) := by
  simp [panMatrixOf]

/-- A pan gain is one of the eight couples of 41_pan.md R112. -/
theorem panGain_couple (m : Int) : panGain m ∈ panCouples := by
  simp only [panGain, panPercent]
  split_ifs <;> decide

/-- The decoded pairs, one by one (42_log2lin.md R121). -/
theorem decodeUnits_get? (mem : Memory) (cur : Addr) (v : SoundState) (avail j : Nat) :
    (decodeUnits mem cur v avail)[j]? =
      if j < UNIT_BYTES * avail then some (decodePair mem cur v j) else none := by
  simp only [decodeUnits, List.getElem?_map]
  split <;> simp_all

@[simp] theorem decodeUnits_length (mem : Memory) (cur : Addr) (v : SoundState) (avail : Nat) :
    (decodeUnits mem cur v avail).length = UNIT_BYTES * avail := by
  simp [decodeUnits]

end Sys2Proof.Machine
end

