-- ==== Sys2Proof/Laws/Mixer.lean ====
section
/-! SUPPORT. What the mixer's loop, `MixBody`, `Flush`, `UpdateStep` and `UpdateDmaRate` can do to the `SoundState` and to
the host's record, said once each. -/

namespace Sys2Proof.Machine

/-- `v'` is `v` but for what mixing writes: the ring drained from the front, `resampleTime`, `fudgeRate` (10_state.md
R49). -/
structure OnlyMixed (v v' : SoundState) : Prop where
  batchSize : v'.batchSize = v.batchSize
  dmaRate : v'.dmaRate = v.dmaRate
  stereoSense : v'.stereoSense = v.stereoSense
  hostRate : v'.hostRate = v.hostRate
  logTable : v'.logTable = v.logTable
  panMatrix : v'.panMatrix = v.panMatrix
  resampleStep : v'.resampleStep = v.resampleStep
  outputScale : v'.outputScale = v.outputScale
  memoD : v'.memoD = v.memoD
  memoS : v'.memoS = v.memoS
  ring : v'.ring <:+ v.ring
  time : v.resampleTime < ONE → v'.resampleTime < ONE

theorem onlyMixed_refl (v : SoundState) : OnlyMixed v v :=
  ⟨rfl, rfl, rfl, rfl, rfl, rfl, rfl, rfl, rfl, rfl, List.suffix_refl _, id⟩

theorem onlyMixed_trans {a b c : SoundState} (h : OnlyMixed a b) (k : OnlyMixed b c) : OnlyMixed a c where
  batchSize := k.batchSize.trans h.batchSize
  dmaRate := k.dmaRate.trans h.dmaRate
  stereoSense := k.stereoSense.trans h.stereoSense
  hostRate := k.hostRate.trans h.hostRate
  logTable := k.logTable.trans h.logTable
  panMatrix := k.panMatrix.trans h.panMatrix
  resampleStep := k.resampleStep.trans h.resampleStep
  outputScale := k.outputScale.trans h.outputScale
  memoD := k.memoD.trans h.memoD
  memoS := k.memoS.trans h.memoS
  ring := k.ring.trans h.ring
  time := k.time ∘ h.time

/-- The host sink after some calls: its answer to `HostInit` as before, the lent buffers used up from the front, the
record longer. -/
structure HostAdvanced (h h' : HostSink) : Prop where
  initAnswer : h'.initAnswer = h.initAnswer
  lends : h'.lends <:+ h.lends
  calls : h.calls <+: h'.calls

theorem hostAdvanced_refl (h : HostSink) : HostAdvanced h h :=
  ⟨rfl, List.suffix_refl _, List.prefix_refl _⟩

theorem hostAdvanced_trans {a b c : HostSink} (h : HostAdvanced a b) (k : HostAdvanced b c) : HostAdvanced a c :=
  ⟨k.initAnswer.trans h.initAnswer, k.lends.trans h.lends, h.calls.trans k.calls⟩

theorem getBuffer_advanced (h : HostSink) : HostAdvanced h h.getBuffer :=
  ⟨rfl, List.tail_suffix _, List.prefix_append _ _⟩

theorem buffered_advanced (h : HostSink) (pairs : List Pair) (room : Nat) : HostAdvanced h (h.buffered pairs room) :=
  ⟨rfl, List.suffix_refl _, List.prefix_append _ _⟩

/-! ## The loop -/

/-- The loop stops at once without room or with fewer than the reserve unread (43_resampler.md R141). -/
theorem mixLoop_stop {sq scale room tq : Nat} {unread : List Pair} (h : room = 0 ∨ unread.length < reserve sq) :
    mixLoop sq scale room unread tq = ⟨[], unread, tq⟩ := by
  cases room with
  | zero => rfl
  | succ room =>
    have : ¬ reserve sq ≤ unread.length := by omega
    simp [mixLoop, this]

/-- One round of the loop (43_resampler.md R140, R143). -/
theorem mixLoop_round {sq scale room tq : Nat} {unread : List Pair} (h : reserve sq ≤ unread.length) :
    mixLoop sq scale (room + 1) unread tq =
      ⟨mixOne sq scale tq unread :: (mixLoop sq scale room (unread.drop ((tq + sq) / ONE)) ((tq + sq) % ONE)).out,
        (mixLoop sq scale room (unread.drop ((tq + sq) / ONE)) ((tq + sq) % ONE)).unread,
        (mixLoop sq scale room (unread.drop ((tq + sq) / ONE)) ((tq + sq) % ONE)).time⟩ := by
  simp [mixLoop, h]

/-- The loop reads from the front, keeps the fraction below one, and writes no more pairs than there is room for. -/
theorem mixLoop_bounds (sq scale room : Nat) (unread : List Pair) (tq : Nat) :
    (mixLoop sq scale room unread tq).unread <:+ unread ∧
    (tq < ONE → (mixLoop sq scale room unread tq).time < ONE) ∧
    (mixLoop sq scale room unread tq).out.length ≤ room := by
  induction room generalizing unread tq with
  | zero => simp [mixLoop]
  | succ room ih =>
    by_cases h : reserve sq ≤ unread.length
    · obtain ⟨hu, ht, hl⟩ := ih (unread.drop ((tq + sq) / ONE)) ((tq + sq) % ONE)
      rw [mixLoop_round h]
      exact ⟨hu.trans (List.drop_suffix _ _), fun _ => ht (Nat.mod_lt _ (by decide)), Nat.succ_le_succ hl⟩
    · rw [mixLoop_stop (.inr (by omega))]
      simp

/-! ## `MixBody`, `Flush` -/

theorem applyFeedback_onlyMixed (p : Params) (v : SoundState) (r : Option Report) :
    OnlyMixed v (applyFeedback p v r) := by
  cases r with
  | some r => exact { onlyMixed_refl v with }
  | none =>
    simp only [applyFeedback]
    split
    · exact onlyMixed_refl v
    · exact { onlyMixed_refl v with }

theorem drained_onlyMixed {v : SoundState} {d : Drain} (hr : d.unread <:+ v.ring)
    (ht : v.resampleTime < ONE → d.time < ONE) : OnlyMixed v (drained v d) :=
  { onlyMixed_refl v with ring := hr, time := ht }

/-- `MixBody` lent nothing asks the host and does nothing else (43_resampler.md R140). -/
theorem mixBody_nothing_lent {p : Params} {v : SoundState} {h : HostSink} (hc : h.nextLend.cap = 0) :
    mixBody p v h = ⟨v, h.getBuffer, 0⟩ := by
  simp [mixBody, hc]

/-- `MixBody` lent something drains, hands the pairs back, and applies the feedback (43_resampler.md R140). -/
theorem mixBody_lent {p : Params} {v : SoundState} {h : HostSink} (hc : h.nextLend.cap ≠ 0) :
    mixBody p v h =
      ⟨applyFeedback p (drained v (mixLoop v.resampleStep v.outputScale h.nextLend.cap v.ring v.resampleTime))
          h.nextLend.report,
        h.getBuffer.buffered (mixLoop v.resampleStep v.outputScale h.nextLend.cap v.ring v.resampleTime).out
          h.nextLend.room,
        (mixLoop v.resampleStep v.outputScale h.nextLend.cap v.ring v.resampleTime).out.length⟩ := by
  simp [mixBody, hc]

theorem mixBody_onlyMixed (p : Params) (v : SoundState) (h : HostSink) : OnlyMixed v (mixBody p v h).sound := by
  by_cases hc : h.nextLend.cap = 0
  · rw [mixBody_nothing_lent hc]
    exact onlyMixed_refl v
  · rw [mixBody_lent hc]
    obtain ⟨hu, ht, -⟩ := mixLoop_bounds v.resampleStep v.outputScale h.nextLend.cap v.ring v.resampleTime
    exact onlyMixed_trans (drained_onlyMixed hu ht) (applyFeedback_onlyMixed ..)

theorem mixBody_hostAdvanced (p : Params) (v : SoundState) (h : HostSink) : HostAdvanced h (mixBody p v h).host := by
  by_cases hc : h.nextLend.cap = 0
  · rw [mixBody_nothing_lent hc]
    exact getBuffer_advanced h
  · rw [mixBody_lent hc]
    exact hostAdvanced_trans (getBuffer_advanced h) (buffered_advanced ..)

theorem flushRounds_onlyMixed (p : Params) (n : Nat) (v : SoundState) (h : HostSink) :
    OnlyMixed v (flushRounds p n v h).sound := by
  induction n generalizing v h with
  | zero => exact mixBody_onlyMixed p v h
  | succ n ih =>
    simp only [flushRounds]
    split
    · exact mixBody_onlyMixed p v h
    · exact onlyMixed_trans (mixBody_onlyMixed p v h) (ih _ _)

theorem flushRounds_hostAdvanced (p : Params) (n : Nat) (v : SoundState) (h : HostSink) :
    HostAdvanced h (flushRounds p n v h).host := by
  induction n generalizing v h with
  | zero => exact mixBody_hostAdvanced p v h
  | succ n ih =>
    simp only [flushRounds]
    split
    · exact mixBody_hostAdvanced p v h
    · exact hostAdvanced_trans (mixBody_hostAdvanced p v h) (ih _ _)

theorem flush_onlyMixed (p : Params) (v : SoundState) (h : HostSink) : OnlyMixed v (flush p v h).sound :=
  flushRounds_onlyMixed p _ v h

theorem flush_hostAdvanced (p : Params) (v : SoundState) (h : HostSink) : HostAdvanced h (flush p v h).host :=
  flushRounds_hostAdvanced p _ v h

/-- A round of `MixBody` uses up one of the host's answers. -/
theorem mixBody_lends (p : Params) (v : SoundState) (h : HostSink) : (mixBody p v h).host.lends = h.lends.tail := by
  by_cases hc : h.nextLend.cap = 0
  · rw [mixBody_nothing_lent hc]
    rfl
  · rw [mixBody_lent hc]
    rfl

/-- With a round for every answer of the host, the last round produces nothing: `Flush` ends as 43_resampler.md R132 says
and not because the rounds ran out. -/
theorem flushRounds_last (p : Params) (n : Nat) (v : SoundState) (h : HostSink) (hn : h.lends.length ≤ n) :
    (flushRounds p n v h).produced = 0 := by
  induction n generalizing v h with
  | zero =>
    have : h.lends = [] := List.eq_nil_of_length_eq_zero (by omega)
    have hc : h.nextLend.cap = 0 := by simp [HostSink.nextLend, this, noLend]
    simp [flushRounds, mixBody_nothing_lent hc]
  | succ n ih =>
    simp only [flushRounds]
    split
    · assumption
    · exact ih _ _ (by rw [mixBody_lends, List.length_tail]; omega)

theorem flush_produced (p : Params) (v : SoundState) (h : HostSink) : (flush p v h).produced = 0 :=
  flushRounds_last p _ v h (le_refl _)

/-! ## The memoised recomputations -/

/-- `UpdateDmaRate` with its key unchanged (45_fetch_scheduler.md R171). -/
theorem updateDmaRate_hit {p : Params} {ports : Ports} {v : SoundState} (h : v.memoD = some (dmaKey ports)) :
    updateDmaRate p ports v = v := by
  simp [updateDmaRate, h]

/-- `UpdateDmaRate` with a new key (45_fetch_scheduler.md R171). -/
theorem updateDmaRate_miss {p : Params} {ports : Ports} {v : SoundState} (h : v.memoD ≠ some (dmaKey ports)) :
    updateDmaRate p ports v = v.setDmaRate (dmaRateFor p (dmaKey ports)) (dmaKey ports) := by
  simp [updateDmaRate, h]

/-- `UpdateStep` with its key unchanged (43_resampler.md R131). -/
theorem updateStep_hit {p : Params} {ports : Ports} {b : Bool} {v : SoundState} {h : HostSink}
    (hk : v.memoS = some (stepKey ports v.hostRate)) : updateStep p ports b v h = (v, h) := by
  simp [updateStep, hk]

/-- `UpdateStep` with a new key, flushing (43_resampler.md R131). -/
theorem updateStep_miss_flush {p : Params} {ports : Ports} {v : SoundState} {h : HostSink}
    (hk : v.memoS ≠ some (stepKey ports v.hostRate)) :
    updateStep p ports true v h =
      ((flush p v h).sound.setStep (stepFor p (stepKey ports v.hostRate))
        (scaleFor (stepFor p (stepKey ports v.hostRate))) (stepKey ports v.hostRate), (flush p v h).host) := by
  simp [updateStep, hk]

/-- `UpdateStep` with a new key, without a flush (43_resampler.md R131). -/
theorem updateStep_miss {p : Params} {ports : Ports} {v : SoundState} {h : HostSink}
    (hk : v.memoS ≠ some (stepKey ports v.hostRate)) :
    updateStep p ports false v h =
      (v.setStep (stepFor p (stepKey ports v.hostRate)) (scaleFor (stepFor p (stepKey ports v.hostRate)))
        (stepKey ports v.hostRate), h) := by
  simp [updateStep, hk]

end Sys2Proof.Machine
end

