-- ==== Sys2Proof/Laws/Exec.lean ====
section
/-! SUPPORT. What each command answers in an active state, in terms of the shared operations; what `INIT` creates; and the
cases of the swap. -/

namespace Sys2Proof.Machine

variable {s : State} {v : SoundState}

theorem execLookup_active (code : Byte) (h : Active s v) :
    execLookup code s = .next (s.setResult (tableAt v.logTable code)) := requireActive_of_active _ h

theorem execPanupd_active (h : Active s v) :
    execPanupd s = .next (s.setSound (v.setPan (panMatrixOf v.stereoSense s.ports.panReg))) := requireActive_of_active _ h

theorem execL2l_active (avail : Nat) (h : Active s v) (fits : v.ringCount + UNIT_BYTES * avail ≤ s.params.ringCap) :
    execL2l avail s = .next (s.setSound (appendUnits s.mem s.ports.dmaCur v avail)) := by
  unfold execL2l
  rw [requireActive_of_active _ h, if_pos fits]

theorem execMix_active (h : Active s v) :
    execMix s = .next ((s.setSound (mixBody s.params v s.host).sound).setHost (mixBody s.params v s.host).host) :=
  requireActive_of_active _ h

theorem execFeedbk_active (h : Active s v) :
    execFeedbk s = .next (s.setSound (v.setFudge (classify s.params v.fudgeRate (sampledReport s.ports)))) :=
  requireActive_of_active _ h

theorem execFrequpd_active (h : Active s v) :
    execFrequpd s =
      .next ((s.setSound (updateStep s.params s.ports true (updateDmaRate s.params s.ports v) s.host).1).setHost
        (updateStep s.params s.ports true (updateDmaRate s.params s.ports v) s.host).2) := requireActive_of_active _ h

theorem execShutdown_active (h : Active s v) :
    execShutdown s =
      if s.schedFinds then .next (((s.setSched .idle).setHost s.host.callQuit).setSound none)
      else .next (takeFatalConsistency s) := requireActive_of_active _ h

/-- The key of `memoS` is not changed by a mix or a flush, so `RATEUPD` recomputes exactly when it flushes
(45_fetch_scheduler.md R181). -/
theorem rateFlush_onlyMixed (p : Params) (ports : Ports) (v : SoundState) (h : HostSink) :
    OnlyMixed v (rateFlush p ports v h).sound ∧ HostAdvanced h (rateFlush p ports v h).host := by
  unfold rateFlush
  split
  · exact ⟨onlyMixed_refl v, hostAdvanced_refl h⟩
  · exact ⟨flush_onlyMixed p v h, flush_hostAdvanced p v h⟩

/-! ## The swap (45_fetch_scheduler.md R174, R179) -/

theorem swapOrWrap_off {p : Ports} (h : p.dmaEn = false) : swapOrWrap p = p := by
  simp [swapOrWrap, h]

theorem swapOrWrap_inside {p : Ports} (h : p.dmaCur ≤ p.dmaEnd) : swapOrWrap p = p := by
  unfold swapOrWrap
  rw [if_neg]
  rintro ⟨-, hlt⟩
  exact absurd hlt (by bv_omega)

theorem swapOrWrap_swap {p : Ports} (en : p.dmaEn = true) (past : p.dmaEnd < p.dmaCur) (latched : p.dmaNextValid = true) :
    swapOrWrap p = swapBuffer p := by
  simp [swapOrWrap, en, past, latched]

theorem swapOrWrap_wrap {p : Ports} (en : p.dmaEn = true) (past : p.dmaEnd < p.dmaCur) (latched : p.dmaNextValid = false) :
    swapOrWrap p = wrapPointer p := by
  simp [swapOrWrap, en, past, latched]

/-- The wait before the next `TICK` is never shorter than the least interval (45_fetch_scheduler.md R176). -/
theorem interval_cast (rate avail batch : Nat) (fudge : Int) :
    (interval rate avail batch fudge : Int) = max 100 ((rate : Int) * (max avail batch : Nat) + fudge) := by
  simp only [interval, MIN_INTERVAL_eq]
  omega

/-! ## What `INIT` creates (46_lifecycle.md R190) -/

theorem createSound_eq (p : Params) (ports : Ports) (h : HostSink) (rate : BitVec 32) (batch : Nat) (sense : StereoSense) :
    createSound p ports h rate batch sense =
      (((freshSound ports rate batch sense).setDmaRate (dmaRateFor p (dmaKey ports)) (dmaKey ports)).setStep
        (stepFor p (stepKey ports rate)) (scaleFor (stepFor p (stepKey ports rate))) (stepKey ports rate), h) := rfl

end Sys2Proof.Machine
end

