-- ==== Sys2Proof/Laws/Memory.lean ====
section
/-! SUPPORT. Emulated memory's canonical form: every memory operation keeps it, and the memory at reset has it. -/

namespace Sys2Proof.Machine

/-- The memory at reset is in canonical form. -/
theorem reset_mem_wf : State.reset.mem.wf := by decide

/-- A written memory lists an address the old one lists, or the written one with a byte to list. -/
theorem mem_of_mem_write {m : Memory} {a : Addr} {b : Byte} {c : Host.Cell} (h : c ∈ Memory.write m a b) :
    c ∈ m ∨ (c = (a.toNat, b) ∧ b ≠ Memory.unlisted) := by
  induction m with
  | nil =>
    simp only [Memory.write] at h
    split at h <;> simp_all
  | cons d m ih =>
    obtain ⟨k, x⟩ := d
    simp only [Memory.write] at h
    split at h
    · rcases List.mem_cons.mp h with h | h
      · exact .inl (by simp [h])
      · rcases ih h with h | h
        · exact .inl (List.mem_cons_of_mem _ h)
        · exact .inr h
    · split at h
      · split at h
        · exact .inl (List.mem_cons_of_mem _ h)
        · rcases List.mem_cons.mp h with h | h
          · exact .inr ⟨h, ‹_›⟩
          · exact .inl (List.mem_cons_of_mem _ h)
      · split at h
        · exact .inl h
        · rcases List.mem_cons.mp h with h | h
          · exact .inr ⟨h, ‹_›⟩
          · exact .inl h

/-- Writing one byte keeps the canonical form. -/
theorem write_keeps_wf {m : Memory} (a : Addr) (b : Byte) (h : m.wf) : (Memory.write m a b).wf := by
  refine ⟨?_, fun c hc => ?_⟩
  · induction m with
    | nil =>
      simp only [Memory.write]
      split <;> simp
    | cons d m ih =>
      obtain ⟨k, x⟩ := d
      obtain ⟨hp, hb⟩ := h
      obtain ⟨hk, hm⟩ := List.pairwise_cons.mp hp
      have hm' : Memory.wf m := ⟨hm, fun c hc => hb c (List.mem_cons_of_mem _ hc)⟩
      simp only [Memory.write]
      split
      · refine List.pairwise_cons.mpr ⟨fun c hc => ?_, ih hm'⟩
        rcases mem_of_mem_write hc with hc | ⟨rfl, -⟩
        · exact hk c hc
        · assumption
      · split
        · split
          · exact hm
          · exact List.pairwise_cons.mpr ⟨fun c hc => by have := hk c hc; simp_all, hm⟩
        · split
          · exact hp
          · refine List.pairwise_cons.mpr ⟨fun c hc => ?_, hp⟩
            rcases List.mem_cons.mp hc with rfl | hc
            · simp only; omega
            · have := hk c hc
              simp only at this ⊢; omega
  · rcases mem_of_mem_write hc with hc | ⟨rfl, hb⟩
    · exact h.2 c hc
    · exact ⟨hb, a.isLt⟩

/-- An external agent's write keeps the canonical form. -/
theorem external_keeps_wf {s : State} (x : ExternalWrite) (h : s.mem.wf) : (s.external x).mem.wf := by
  cases x with
  | memory a b => exact write_keeps_wf a b h
  | _ => exact h

end Sys2Proof.Machine
end

