-- ==== Sys2Proof/Laws/PerInstr.lean ====
section
/-! SUPPORT. Statements made of every command, one lemma per constructor. `TableRow`: a command's word has the fixed bits
that its row of spec/opcode_table.json gives it. -/

namespace Sys2Proof.Laws.TableRow

/-- The row's mask (30_encoding.md R87; spec/opcode_table.json). -/
def rowMask : Instr → Word
  | .lookup _ => 0xFFFFFF00
  | .l2l _ => 0xFF000000
  | .init | .shutdown | .panupd | .frequpd | .rateupd | .tick | .mix | .feedbk => 0xFFFFFFFF

/-- The row's match (spec/opcode_table.json). -/
def rowMatch : Instr → Word
  | .init => 0x01000000
  | .shutdown => 0x02000000
  | .lookup _ => 0x03000000
  | .panupd => 0x04000000
  | .frequpd => 0x05000000
  | .rateupd => 0x06000000
  | .tick => 0x07000000
  | .l2l _ => 0x08000000
  | .mix => 0x09000000
  | .feedbk => 0x0A000000

/-- The word of a command lies in its row of the table. -/
def Statement (i : Instr) : Prop := encode i &&& rowMask i = rowMatch i

theorem init : Statement .init := rfl
theorem shutdown : Statement .shutdown := rfl
theorem lookup (code : Byte) : Statement (.lookup code) := by
  unfold Statement encode rowMask rowMatch opcode argField
  revert code
  decide
theorem panupd : Statement .panupd := rfl
theorem frequpd : Statement .frequpd := rfl
theorem rateupd : Statement .rateupd := rfl
theorem tick : Statement .tick := rfl
theorem l2l (avail : Nat) : Statement (.l2l avail) := by
  have h : (0xFF000000 : Word) = (0xFF : BitVec 8) ++ (0 : BitVec 24) := by decide
  show (opcode (.l2l avail) ++ BitVec.ofNat 24 avail) &&& (0xFF000000 : Word) = 0x08000000
  rw [h, BitVec.and_append]
  simp [opcode]
theorem mix : Statement .mix := rfl
theorem feedbk : Statement .feedbk := rfl

end Sys2Proof.Laws.TableRow
end

