-- ==== Sys2Proof/Tests/Slice0.lean ====
section
/-! SUPPORT. Tests of the block's commands, one step each, with the results of spec/95_test_vectors.md (the vector is named
in each docstring), and for each statement with hypotheses a theorem that shows what meets them. -/

namespace Sys2Proof.Tests

open Sys2Proof Sys2Proof.Machine

/-! ## The example configuration and states (95_test_vectors.md) -/

/-- "Example configuration", with `SrcRateOf` where the vectors read it. -/
def cfg : Params :=
  ⟨4096, 16, 64, 4, true, [⟨166, 0, 166000⟩, ⟨83, 0, 83000⟩, ⟨24, 0, 24000⟩, ⟨1, 0, 1⟩], 44100⟩

/-- The ports of programs P1 and P2 before `INIT`, DMA off. -/
def ports0 : Ports :=
  { Ports.reset with
    sndFreq := 166, tickRate := 1000000, now := 5000, panReg := #v[1, 2, 3, 4, 5, 6, 7, 0]
    dmaStart := 0x1000, dmaEnd := 0x1010, dmaCur := 0x1000 }

/-- The host of the programs, for a stereo sense. -/
def host0 (sense : StereoSense) : HostSink := ⟨.ok 45158400 4 sense, [], []⟩

/-- `life = Uninit`, with the host of the programs. -/
def idle (sense : StereoSense) : State :=
  { State.reset with params := cfg, ports := ports0, host := host0 sense }

/-- The bytes of programs P1, P2 and P4 from 0x1000 on, as many as the vectors read. -/
def mem7 : Memory := (List.range 32).map fun j => (0x1000 + j, BitVec.ofNat 8 (7 * (0x1000 + j) + 3))

/-- The `SoundState` that `INIT` creates from these ports (vector Z2). -/
def sound0 : SoundState := (createSound cfg ports0 (host0 .leftFirst) 45158400 4 .leftFirst).1

/-- `Active`, armed at 5100, memory as in P2. -/
def act : State :=
  { idle .leftFirst with sound := some sound0, sched := .armed 5100, mem := mem7 }

/-- `act` with another `SoundState`. -/
def withSound (f : SoundState → SoundState) : State := { act with sound := some (f sound0) }

/-- `act` with other ports. -/
def withPorts (f : Ports → Ports) : State := { act with ports := f act.ports }

/-- `act` with these pairs in the ring and these buffers lent. -/
def withRing (ring : List Pair) (lends : List Lend) : State :=
  { act with sound := some { sound0 with ring := ring }, host := { act.host with lends := lends } }

/-- A ring of `n` equal pairs. -/
def flat (n : Nat) (v : Int) : List Pair := List.replicate n ⟨v, v⟩

/-- The ramp of vectors M10 to M17. -/
def ramp : List Pair := (List.range 64).map fun i => ⟨100 * i, -100 * i⟩

/-- `fatal = 1`, as E2 leaves it. -/
def broken : State := { act with fatal := true, schedFinds := false }

/-- The state a command leaves. -/
def after (i : Instr) (s : State) : State :=
  match exec i s with
  | .next t => t
  | .fault _ | .refused _ => s

/-- Does a command answer a next state? -/
def runs (i : Instr) (s : State) : Bool :=
  match exec i s with
  | .next _ => true
  | .fault _ | .refused _ => false

/-- Why a command is refused. -/
def refusal (i : Instr) (s : State) : Option Refusal :=
  match exec i s with
  | .next _ | .fault _ => none
  | .refused r => some r

/-- What a step leaves. -/
def afterStep (s : State) : State :=
  match step s with
  | .next t => t
  | .fault _ | .refused _ => s

/-- A field of the `SoundState`. -/
def get {α : Type} (f : SoundState → α) (s : State) : Option α := s.sound.map f

theorem exec_of_runs {i : Instr} {s : State} (h : runs i s = true) : exec i s = .next (after i s) := by
  unfold runs at h
  unfold after
  split at h <;> simp_all

/-! ## Well-formedness and decoding -/

/-- The one operand with a bound: `avail` of `L2L` is 24 bits wide (R85). -/
theorem test_illformed_l2l : ¬ (Instr.l2l (2 ^ 24)).WellFormed := by decide

theorem test_wellformed_l2l : (Instr.l2l (2 ^ 24 - 1)).WellFormed := by decide

/-! Each word is written out from the tables of R84 and R85: eight bits of `op`, then the 24 bits of `arg`. -/

theorem test_decode_init : decode 0b00000001_000000000000000000000000 = .ok .init := by decide
theorem test_decode_shutdown : decode 0b00000010_000000000000000000000000 = .ok .shutdown := by decide
theorem test_decode_lookup : decode 0b00000011_000000000000000001001011 = .ok (.lookup 0x4B) := by decide
theorem test_decode_panupd : decode 0b00000100_000000000000000000000000 = .ok .panupd := by decide
theorem test_decode_frequpd : decode 0b00000101_000000000000000000000000 = .ok .frequpd := by decide
theorem test_decode_rateupd : decode 0b00000110_000000000000000000000000 = .ok .rateupd := by decide
theorem test_decode_tick : decode 0b00000111_000000000000000000000000 = .ok .tick := by decide
theorem test_decode_l2l : decode 0b00001000_100000000000000000000010 = .ok (.l2l (2 ^ 23 + 2)) := by decide
theorem test_decode_mix : decode 0b00001001_000000000000000000000000 = .ok .mix := by decide
theorem test_decode_feedbk : decode 0b00001010_000000000000000000000000 = .ok .feedbk := by decide

/-- A10, Z8, Z9: what is no command. -/
theorem test_decode_refused :
    decode 0x030001FE = .error (.nonzeroArg 3) ∧ decode 0x07000001 = .error (.nonzeroArg 7) ∧
    decode 0x00000000 = .error (.reservedOpcode 0) ∧ decode 0x0B000000 = .error (.reservedOpcode 0x0B) ∧
    decode 0xFF000000 = .error (.reservedOpcode 0xFF) := by decide

theorem test_encode :
    encode .init = 0x01000000 ∧ encode (.lookup 0xFE) = 0x030000FE ∧ encode (.l2l 2) = 0x08000002 ∧
    encode .feedbk = 0x0A000000 := by decide

/-! ## Commands -/

/-- Z2. -/
theorem test_init_succeeds :
    after .init (idle .leftFirst) = { idle .leftFirst with
      sound := some sound0, sched := .armed 5100, host := ⟨.ok 45158400 4 .leftFirst, [], [.init]⟩ } ∧
    sound0.dmaRate = 96 ∧ sound0.resampleStep = 1927 ∧ sound0.outputScale = 17412 ∧
    sound0.memoD = some ⟨166, 0, 1000000⟩ ∧ sound0.memoS = some ⟨166, 0, 45158400⟩ ∧
    sound0.ring = [] ∧ sound0.resampleTime = 0 ∧ sound0.fudgeRate = 0 := by decide +kernel

/-- Z1: E1. -/
theorem test_init_fails :
    runs .init State.reset = true ∧ (after .init State.reset).result = 1 ∧ (after .init State.reset).sound = none ∧
    (after .init State.reset).sched = .idle := by decide

/-- Z5. -/
theorem test_shutdown_found :
    runs .shutdown act = true ∧ (after .shutdown act).sound = none ∧ (after .shutdown act).sched = .idle ∧
    (after .shutdown act).host.calls = [.quit] ∧ (after .shutdown act).fatal = false := by decide

/-- Z6: E2. -/
theorem test_shutdown_not_found :
    after .shutdown { act with schedFinds := false } = broken ∧ broken.sound = some sound0 := by decide +kernel

/-- A4, A6, A8, A9. -/
theorem test_lookup :
    (after (.lookup 0x1F) act).result = -120 ∧ (after (.lookup 0x4B) act).result = -561 ∧
    (after (.lookup 0xFE) act).result = 32604 ∧ (after (.lookup 0xFF) act).result = -32604 := by decide

/-- A11. -/
theorem test_lookup_uninit : refusal (.lookup 0xFE) (idle .leftFirst) = some .notActive := by decide

/-- B5. -/
theorem test_panupd_right_first :
    get (fun v => v.panMatrix)
      (after .panupd { withSound (fun v => { v with stereoSense := .rightFirst }) with
        ports := { ports0 with panReg := #v[0, 8, 9, 15, 7, 7, 1, 1] } }) =
      some #v[⟨0, 0⟩, ⟨0, 0⟩, ⟨0, 0⟩, ⟨0, 0⟩, ⟨65536, 0⟩, ⟨65536, 0⟩, ⟨0, 65536⟩, ⟨0, 65536⟩] := by decide

/-- B2: the matrix `INIT` made of the same registers. -/
theorem test_panupd_left_first :
    get (fun v => v.panMatrix) (after .panupd act) =
      some #v[⟨65536, 0⟩, ⟨54394, 11141⟩, ⟨43909, 21626⟩, ⟨32768, 32768⟩, ⟨21626, 43909⟩, ⟨11141, 54394⟩, ⟨0, 65536⟩,
        ⟨0, 0⟩] := by decide

/-- L2, the first unit. -/
theorem test_l2l :
    get (fun v => v.ring) (after (.l2l 1) act) =
      some [⟨-8, 0⟩, ⟨33, 6⟩, ⟨-43, -22⟩, ⟨48, 48⟩, ⟨-40, -81⟩, ⟨30, 149⟩, ⟨0, -228⟩, ⟨0, 0⟩, ⟨-340, 0⟩, ⟨356, 72⟩,
        ⟨-354, -175⟩, ⟨330, 330⟩, ⟨-251, -509⟩, ⟨151, 739⟩, ⟨0, -1056⟩, ⟨0, 0⟩] ∧
    (after (.l2l 1) act).ports = act.ports := by decide

/-- L5, with a ring of 40 pairs at most in the place of 4096. -/
theorem test_l2l_overrun :
    refusal (.l2l 1) { withRing (flat 25 0) [] with params := { cfg with ringCap := 40 } } = some .ringOverrun ∧
    runs (.l2l 1) { withRing (flat 24 0) [] with params := { cfg with ringCap := 40 } } = true := by decide

/-- M13, M15, M17: small branch with an offset, rounding of a negative sum, the large branch at its threshold. -/
theorem test_mix_ramp :
    (mixLoop 512 (scaleFor 512) 3 ramp 100).out = [⟨369, -370⟩, ⟨469, -470⟩, ⟨569, -570⟩] ∧
    (mixLoop 1927 (scaleFor 1927) 3 ramp 0).out = [⟨490, -491⟩, ⟨865, -866⟩, ⟨1240, -1241⟩] ∧
    (mixLoop 4097 (scaleFor 4097) 2 ramp 0).out = [⟨700, -701⟩, ⟨1500, -1501⟩] := by decide

/-- The first two rounds of program P3's step 4: 48 pairs, 4 host pairs for the first buffer, `rd = 15`, `tq = 28`. -/
theorem test_mix :
    get (fun v => (v.ring.length, v.resampleTime, v.fudgeRate)) (after .mix (withRing (flat 48 990) [⟨4, 4, none⟩])) =
      some (33, 28, 0) ∧
    (after .mix (withRing (flat 48 990) [⟨4, 4, none⟩])).host.calls =
      [.getBuffer 4, .buffered (flat 4 989) 4] := by decide

/-- P3, step 4. -/
theorem test_frequpd_flushes :
    let s := { withRing (flat 48 990) [⟨4, 4, none⟩, ⟨100, 100, none⟩, ⟨100, 100, none⟩] with
      ports := { ports0 with sndFreq := 83 } }
    get (fun v => (v.dmaRate, v.resampleStep, v.outputScale, v.ring.length, v.resampleTime)) (after .frequpd s) =
      some (192, 963, 34843, 11, 326) ∧
    (after .frequpd s).host.calls =
      [.getBuffer 4, .buffered (flat 4 989) 4, .getBuffer 100, .buffered (flat 6 989) 6, .getBuffer 100, .buffered [] 0] := by
  decide

/-- P3, step 3. -/
theorem test_frequpd_memoised : after .frequpd act = act := by decide +kernel

/-- F6 from P3's step 5. -/
theorem test_rateupd :
    let s := withPorts fun p => { p with sndFreq := 83, hostRateIn := 22579200 }
    get (fun v => (v.hostRate, v.resampleStep, v.outputScale, v.dmaRate)) (after .rateupd s) =
      some (22579200, 1927, 17412, 96) ∧
    get (fun v => v.memoS) (after .rateupd s) = some (some ⟨83, 0, 22579200⟩) := by decide

/-- Z10. -/
theorem test_rateupd_zero : refusal .rateupd (withPorts fun p => { p with hostRateIn := 0 }) = some .zeroRate := by decide

/-- T1: the wrap. -/
theorem test_tick_wraps :
    let s := withPorts fun p => { p with dmaEn := true, dmaCur := 0x1020, now := 10000 }
    (after .tick s).ports = { s.ports with dmaCur := 0x1020 } ∧ (after .tick s).sched = .armed 11536 ∧
    get (fun v => v.ring.length) (after .tick s) = some 32 := by decide

/-- T4: the swap, to an empty buffer. -/
theorem test_tick_swaps :
    let s := withPorts fun p => { p with
      dmaEn := true, dmaCur := 0x1020, now := 10000, dmaNextValid := true, dmaNextStart := 0x2000, dmaNextEnd := 0x1FF0 }
    (after .tick s).ports = { s.ports with
      dmaStart := 0x2000, dmaEnd := 0x1FF0, dmaCur := 0x2000, sndIrq := true, dmaNextValid := false } ∧
    get (fun v => v.ring) (after .tick s) = some [] := by decide

/-- K21: halving rounds toward zero. -/
theorem test_feedbk_halves :
    get (fun v => v.fudgeRate) (after .feedbk { withSound (fun v => { v with fudgeRate := -65 }) with
      ports := { ports0 with hostUsed := 4096, hostCap := 4096, hostAttempted := 1 } }) = some (-32) := by decide

/-- K8, K19, K26, K27. -/
theorem test_classify :
    classify cfg 12 ⟨3073, 4096, 0⟩ = 16 ∧ classify cfg 64 ⟨0, 4096, 0⟩ = 0 ∧ classify cfg 0 ⟨5000, 4096, 0⟩ = 64 ∧
    classify cfg 3 ⟨1, 2, 0⟩ = 2 := by decide

/-! ## Steps -/

/-- Z7. -/
theorem test_fatal_refuses : refusal .tick broken = some .fatalSet ∧ refusal .init broken = some .fatalSet := by decide

/-- P2: the timer's expiry runs `TICK` with `NOW = nextTime`; two units are fetched. -/
theorem test_step_timer :
    let s := { withPorts (fun p => { p with dmaEn := true }) with inputs := [.timer] }
    (afterStep s).sched = .armed 6636 ∧ (afterStep s).ports.now = 5100 ∧ (afterStep s).ports.dmaCur = 0x1020 := by decide

/-- A word placed for the next step is run by it. -/
theorem test_step_fetches :
    (afterStep (act.withFetchWord 32 0x030000FE)).result = 32604 ∧
    (afterStep (State.reset.withFetchWord 32 0x01000000)).result = 1 := by decide

/-- A byte written to memory is read, and a zero takes its entry away. -/
theorem test_memory :
    Memory.read (Memory.write mem7 0x1005 0x80) 0x1005 = 0x80 ∧ Memory.read (Memory.write mem7 0x1005 0x80) 0x1006 = 0x2D ∧
    Memory.write [(0x1000, 3)] 0x1000 0 = [] := by decide

/-! ## What meets the hypotheses of the statements

One theorem per statement with hypotheses, a conjunct per clause, at a boundary of its range where it has one. -/

theorem active_act : Active act sound0 := ⟨rfl, rfl⟩

theorem active_ring (ring : List Pair) (lends : List Lend) :
    Active (withRing ring lends) { sound0 with ring := ring } := ⟨rfl, rfl⟩

theorem uninit_idle (sense : StereoSense) : Uninit (idle sense) := ⟨rfl, rfl⟩

theorem sound0_table : sound0.logTable = logTable := by decide +kernel

/-- A ring in range and within its capacity meets the invariant. -/
theorem soundInv_ring (ring : List Pair) (fits : ring.length ≤ 4096) (range : ∀ x ∈ ring, PairRange x) :
    SoundInv cfg { sound0 with ring := ring } where
  ring_fits := fits
  time_fraction := by dsimp only; decide
  step_pos := by dsimp only; decide
  table_built code := by simp [sound0_table]
  pan_legal := by dsimp only; decide
  ring_range := range
  batch_pos := by dsimp only; decide
  dma_pos := by dsimp only; decide
  host_rate_pos := by dsimp only; decide
  scale_matches := by dsimp only; decide
  memoD_matches := ⟨⟨166, 0, 1000000⟩, (by decide : sound0.memoD = _), (by decide : sound0.dmaRate = _)⟩
  memoS_matches := ⟨⟨166, 0, 45158400⟩, (by decide : sound0.memoS = _), (by decide : _ = sound0.hostRate),
    (by decide : sound0.resampleStep = _)⟩

theorem inv_ring (ring : List Pair) (lends : List Lend) (fits : ring.length ≤ 4096) (range : ∀ x ∈ ring, PairRange x) :
    StateInv (withRing ring lends) where
  mem_wf := (by decide : mem7.wf)
  armed_iff_active := rfl
  fatal_active h := by cases h
  sound_inv v h := by
    cases h
    exact soundInv_ring ring fits range

/-- A state that meets the invariant, with pairs to deliver and a buffer to deliver them to. -/
def ready : State := withRing (flat 20 100) [⟨4, 4, none⟩]

theorem ready_inv : StateInv ready := inv_ring _ _ (by decide) (by decide)

theorem witness_DecodeInvertsEncode :
    (Instr.l2l 0).WellFormed ∧ (Instr.l2l (2 ^ 24 - 1)).WellFormed ∧ (Instr.lookup 0xFF).WellFormed ∧
    Instr.init.WellFormed := by decide

theorem witness_EncodeInvertsDecode :
    decode 0x030000FF = .ok (.lookup 0xFF) ∧ decode 0x08FFFFFF = .ok (.l2l (2 ^ 24 - 1)) := by decide

theorem witness_CommandWordsAreExactlyTheTable :
    ((0x00FFFFFF : Word).toNat / 2 ^ 24 = 0 ∧ 0x0B ≤ (0x0B000000 : Word).toNat / 2 ^ 24) ∧
    ((0x03000100 : Word).toNat / 2 ^ 24 = 3 ∧ 256 ≤ (0x03000100 : Word).toNat % 2 ^ 24) ∧
    ((0x0A000001 : Word).toNat / 2 ^ 24 = 10 ∧ (0x0A000001 : Word).toNat % 2 ^ 24 ≠ 0) ∧
    ({ act with inputs := [.command 0x0B000000] }.inputs = .command 0x0B000000 :: [] ∧
      decode 0x0B000000 = .error (.reservedOpcode 0x0B)) := by decide

theorem witness_StepRunsTheDecodedCommand :
    ({ act with inputs := [.command 0x09000000, .timer] }.inputs = .command 0x09000000 :: [.timer] ∧
      decode 0x09000000 = .ok .mix) ∧
    decodeTableWord 32 0x09000000 = some .mix := by decide

theorem witness_StepWithoutACommand :
    act.inputs = [] ∧
    { act with inputs := [.write (.now 7)] }.inputs = .write (.now 7) :: [] ∧
    ({ idle .leftFirst with inputs := [.timer] }.inputs = .timer :: [] ∧ (idle .leftFirst).sched = .idle) ∧
    ({ act with inputs := [.timer] }.inputs = .timer :: [] ∧ act.sched = .armed 5100) := by decide

/-- And each of the five cases is met by some state. -/
theorem witness_RefusedExactlyWhenListed :
    { act with inputs := [.command 0x00000000] }.inputs = .command 0x00000000 :: [] ∧
    decode 0x00000000 ≠ .ok .init ∧ broken.fatal = true ∧ act.sound ≠ none ∧ (idle .leftFirst).sound = none ∧
    act.params.ringCap < sound0.ringCount + 16 * 257 ∧ (withPorts fun p => { p with hostRateIn := 0 }).ports.hostRateIn = 0 := by
  decide

/-- The fault's case: a host that answers `ok` with a batch of 0. -/
theorem witness_OnlyInitUnderABrokenHostFaults :
    exec .init { idle .leftFirst with host := ⟨.ok 45158400 0 .leftFirst, [], []⟩ } = .fault .hostContract := rfl

theorem witness_EveryCommandCompletes :
    (∀ i ∈ [Instr.shutdown, .lookup 0, .panupd, .frequpd, .rateupd, .tick, .mix, .feedbk], i ≠ .init) ∧
    Active act sound0 ∧ sound0.ringCount + 16 * 256 ≤ act.params.ringCap ∧ act.ports.hostRateIn ≠ 0 ∧
    Uninit (idle .leftFirst) ∧ Uninit State.reset ∧
    (idle .leftFirst).host.initAnswer = .ok 45158400 4 .leftFirst ∧ State.reset.host.initAnswer = .failed :=
  ⟨by decide, active_act, by decide, by decide, uninit_idle _, ⟨rfl, rfl⟩, rfl, rfl⟩

theorem witness_InitCreatesTheSoundState :
    (Uninit (idle .rightFirst) ∧ (idle .rightFirst).host.initAnswer = .ok 45158400 4 .rightFirst ∧
      (45158400 : BitVec 32) ≠ 0) ∧
    (Uninit { idle .leftFirst with host := ⟨.ok 1 1 .leftFirst, [], []⟩ } ∧ (1 : BitVec 32) ≠ 0) ∧
    (Uninit State.reset ∧ State.reset.host.initAnswer = .failed) ∧ Active act sound0 :=
  ⟨⟨uninit_idle _, rfl, by decide⟩, ⟨⟨rfl, rfl⟩, by decide⟩, ⟨⟨rfl, rfl⟩, rfl⟩, active_act⟩

theorem witness_FailedInitMayBeRetried : Uninit State.reset ∧ State.reset.host.initAnswer = .failed :=
  ⟨⟨rfl, rfl⟩, rfl⟩

theorem witness_ShutdownReleasesOrIsFatal :
    (Active act sound0 ∧ act.schedFinds = true) ∧
    (Active { act with schedFinds := false } sound0 ∧ { act with schedFinds := false }.schedFinds = false) ∧
    Uninit State.reset :=
  ⟨⟨active_act, rfl⟩, ⟨⟨rfl, rfl⟩, rfl⟩, ⟨rfl, rfl⟩⟩

theorem witness_FatalIsTerminal :
    (Active { act with schedFinds := false } sound0 ∧ { act with schedFinds := false }.schedFinds = false) ∧
    broken.fatal = true ∧
    step { broken with inputs := [.write (.schedFinds true)] } = .next { broken with schedFinds := true } :=
  ⟨⟨⟨rfl, rfl⟩, rfl⟩, rfl, rfl⟩

/-- Two states that differ in the `SoundState`, in memory and in the host's lends. -/
theorem witness_BackendSwitchForgets :
    act.ports = ready.ports ∧ act.params = ready.params ∧ act.host.initAnswer = ready.host.initAnswer ∧
    exec .shutdown act = .next (after .shutdown act) ∧ exec .shutdown ready = .next (after .shutdown ready) ∧
    exec .init (after .shutdown act) = .next (after .init (after .shutdown act)) ∧
    exec .init (after .shutdown ready) = .next (after .init (after .shutdown ready)) ∧
    act.sound.map SoundState.ring ≠ ready.sound.map SoundState.ring :=
  ⟨rfl, rfl, rfl, rfl, rfl, exec_of_runs (by decide), exec_of_runs (by decide), by decide⟩

theorem witness_LogTableSymmetricAndRising :
    (0xFC : Byte).toNat % 2 = 0 ∧ (0xFE : Byte).toNat % 2 = 0 ∧ (0xFC : Byte).toNat < (0xFE : Byte).toNat ∧
    (0x1E : Byte).toNat % 2 = 0 ∧ (0x20 : Byte).toNat % 2 = 0 ∧ (0x1E : Byte).toNat < (0x20 : Byte).toNat := by decide

theorem witness_LookupReadsTheTable :
    Active act sound0 ∧ SoundInv act.params sound0 ∧ Uninit (idle .leftFirst) :=
  ⟨active_act, soundInv_ring [] (by decide) (by decide), uninit_idle _⟩

theorem witness_PanGainTable : ((0 : Int) ≤ 0 ∧ (8 : Int) ≤ 8) ∧ ((1 : Int) ≤ 1 ∧ (7 : Int) ≤ 7) := by decide

theorem witness_InvalidPanCodesMute :
    (0 : BitVec 4).toNat = 0 ∧ 8 ≤ (8 : BitVec 4).toNat ∧ 8 ≤ (15 : BitVec 4).toNat := by decide

theorem witness_PanupdFollowsTheRegisters :
    (Active act sound0 ∧ sound0.stereoSense ≠ .rightFirst) ∧
    (Active (withSound fun v => { v with stereoSense := .rightFirst }) { sound0 with stereoSense := .rightFirst }) ∧
    exec .panupd act = .next (after .panupd act) ∧ Uninit (idle .leftFirst) :=
  ⟨⟨active_act, by decide⟩, ⟨rfl, rfl⟩, rfl, uninit_idle _⟩

/-- The last count that fits and the first that does not; byte 15 of two units with its gains. -/
theorem witness_L2lAppendsDecodedUnits :
    (Active act sound0 ∧ sound0.ringCount + 16 * 256 ≤ act.params.ringCap) ∧
    act.params.ringCap < sound0.ringCount + 16 * 257 ∧
    (act.mem.read (BitVec.ofNat 32 (act.ports.dmaCur.toNat + 14)) = 0x65 ∧ sound0.panMatrix[14 % 8]? = some ⟨0, 65536⟩) ∧
    Uninit (idle .leftFirst) ∧ 2 ^ 24 - 1 < 2 ^ 24 :=
  ⟨⟨active_act, by decide⟩, by decide, by decide, uninit_idle _, by decide⟩

theorem witness_L2lOfNoUnitsChangesNothing : Active act sound0 ∧ SoundInv act.params sound0 :=
  ⟨active_act, soundInv_ring [] (by decide) (by decide)⟩

theorem witness_PanProductBounds :
    (65536 ≤ 65536 ∧ SampleRange (-32604) ∧ SampleRange 32604) ∧ SampleRange (-1) ∧ (32768 : Nat) ≤ 65536 := by decide

/-- Two memories, two pointers and two rings, the same byte 9. -/
theorem witness_LanesAreIndependent :
    mem7.read (0x1000 + BitVec.ofNat 32 9) = 0x42 ∧
    Memory.read [(0x2009, 0x42)] (0x2000 + BitVec.ofNat 32 9) = 0x42 ∧
    sound0.panMatrix[9 % 8]? = { sound0 with ring := flat 3 1 }.panMatrix[9 % 8]? ∧
    tableAt sound0.logTable 0x42 = tableAt { sound0 with ring := flat 3 1 }.logTable 0x42 := by decide

/-- The ends of `tq`, the least interval, one longer than a window; a pair at, before and after `last`. -/
theorem witness_WeightsOfAnInterval :
    (0 < 512 ∧ 511 < 512) ∧ 1 ≤ 1 ∧ 1 ≤ 5000 ∧ (511 + 1 - 1) / 512 + 7 < 8 ∧ 7 ≤ (511 + 1 - 1) / 512 + 7 ∧
    weight 7 0 5000 = 8 * 512 := by decide

/-- Just enough pairs, in the small branch and in the large. -/
theorem witness_HostPairIsTheAreaSum :
    (511 + 4096 - 1) / 512 + 7 < (flat 16 1).length ∧ (511 + 4097 - 1) / 512 + 7 < (flat 16 1).length ∧
    (511 < 512 ∧ 8 * 512 < 4097 ∧ 15 ≤ (511 + 4097 - 1) / 512 + 7 ∧ 7 ≤ 7 ∧ (511 + 4097) / 512 ≤ 9 ∧ 8 ≤ 8 ∧
      8 < (511 + 4097) / 512) := by decide

theorem witness_SlowRatiosWeighNinePairs :
    511 < 512 ∧ 1 ≤ 512 ∧ 512 ≤ 512 ∧ (511 : Int) = max 0 (((511 : Nat) : Int) + (512 : Nat) - 512) ∧
    (0 : Int) = max 0 (((0 : Nat) : Int) + (1 : Nat) - 512) := by decide

theorem witness_ReserveCoversEveryRead : (511 < 512 ∧ 1 ≤ 1) ∧ (0 < 512 ∧ 1 ≤ 51200) := by decide

/-- M31 and M30 with a buffer lent, M33 without; both ends of the loop are met. -/
theorem witness_MixDrainsTheRing :
    (Active ready { sound0 with ring := flat 20 100 } ∧ { sound0 with ring := flat 20 100 }.resampleTime < 512 ∧
      ready.host.lends = ⟨4, 4, none⟩ :: [] ∧ (4 : Nat) ≠ 0) ∧
    (mixLoop 512 (scaleFor 512) 5 (flat 11 1000) 0).out.length = 1 ∧
    (mixLoop 512 (scaleFor 512) 5 (flat 10 1000) 0).out.length = 0 ∧
    (mixLoop 512 (scaleFor 512) 5 (flat 15 1000) 0).out.length = 5 ∧
    (Active act sound0 ∧ act.host.nextLend.cap = 0) ∧ Uninit (idle .leftFirst) :=
  ⟨⟨active_ring _ _, by decide, rfl, by decide⟩, by decide, by decide, by decide, ⟨active_act, rfl⟩, uninit_idle _⟩

theorem witness_HostPairRange :
    (511 < 512 ∧ 1 ≤ 1 ∧ (511 + 1 - 1) / 512 + 7 < (flat 8 (-32604)).length ∧ ∀ x ∈ flat 8 (-32604), PairRange x) ∧
    (64 ≤ 64 ∧ (511 + 64 - 1) / 512 + 7 < (flat 9 (-32604)).length ∧ ∀ x ∈ flat 9 (-32604), PairRange x) ∧
    (∀ x ∈ flat 8 (-32768), |x.s0| ≤ 32768 ∧ |x.s1| ≤ 32768) := by decide

theorem witness_EveryHostSampleFitsSixteenBits :
    StateInv ready ∧ exec .mix ready = .next (after .mix ready) ∧
    (after .mix ready).host.calls = ready.host.calls ++ [.getBuffer 4, .buffered (flat 2 99) 2] :=
  ⟨ready_inv, exec_of_runs (by decide), by decide⟩

/-- The least and the greatest step of the rule. -/
theorem witness_ConstantStreamsArePreserved :
    (6 ≤ 6 ∧ 6 ≤ 25 ∧ 511 < 512 ∧ (511 + 2 ^ 6 - 1) / 512 + 7 < 9) ∧
    (25 ≤ 25 ∧ (511 + 2 ^ 25 - 1) / 512 + 7 < 65544) ∧
    (64 ≤ 64 ∧ (511 + 64 - 1) / 512 + 7 < 9 ∧ SampleRange (-32604)) ∧
    (1 ≤ 1 ∧ (0 + 1 - 1) / 512 + 7 < 8 ∧ (511 + 1 - 1) / 512 + 7 < 8) := by decide

/-- `ready`, whose host takes all four pairs, and the same with a host that takes one. -/
theorem witness_AShortAcceptanceChangesNothing :
    let s' := ready.setHost { ready.host with lends := [⟨4, 1, none⟩] }
    ready.host.lends = ⟨4, 4, none⟩ :: [] ∧
    exec .mix ready = .next (after .mix ready) ∧ exec .mix s' = .next (after .mix s') :=
  ⟨rfl, exec_of_runs (by decide), exec_of_runs (by decide)⟩

/-- `ready` and a state with other ports and another memory. -/
theorem witness_MixReadsNoPortAndNoMemory :
    let s' := { ready with ports := Ports.reset, mem := [] }
    ready.sound = s'.sound ∧ ready.host = s'.host ∧ ready.params = s'.params ∧
    exec .mix ready = .next (after .mix ready) ∧ exec .mix s' = .next (after .mix s') :=
  ⟨rfl, rfl, rfl, exec_of_runs (by decide), exec_of_runs (by decide)⟩

theorem witness_FrequpdMemoised :
    Active act sound0 ∧ sound0.memoD = some ⟨act.ports.sndFreq, act.ports.clkSel, act.ports.tickRate⟩ ∧
    sound0.memoS = some ⟨act.ports.sndFreq, act.ports.clkSel, sound0.hostRate⟩ :=
  ⟨active_act, by decide, by decide⟩

/-- `ready` with another frequency in the ports. -/
def retuned : State := { ready with ports := { ports0 with sndFreq := 83, hostRateIn := 22579200 } }

theorem witness_FrequpdTwiceIsOnce : exec .frequpd retuned = .next (after .frequpd retuned) :=
  exec_of_runs (by decide)

/-- Both keys new, only the step's key new, only `TICK_RATE` new. -/
theorem witness_FrequpdRecomputes :
    (Active retuned { sound0 with ring := flat 20 100 } ∧
      sound0.memoS ≠ some ⟨retuned.ports.sndFreq, retuned.ports.clkSel, sound0.hostRate⟩ ∧
      sound0.memoD ≠ some ⟨retuned.ports.sndFreq, retuned.ports.clkSel, retuned.ports.tickRate⟩) ∧
    Active (withSound fun v => { v with memoS := none }) { sound0 with memoS := none } ∧
    sound0.memoD = some ⟨act.ports.sndFreq, act.ports.clkSel, act.ports.tickRate⟩ ∧
    (Active (withPorts fun p => { p with tickRate := 5 }) sound0 ∧
      sound0.memoS = some ⟨act.ports.sndFreq, act.ports.clkSel, sound0.hostRate⟩ ∧
      sound0.memoD ≠ some ⟨act.ports.sndFreq, act.ports.clkSel, 5⟩) ∧ Uninit (idle .leftFirst) :=
  ⟨⟨⟨rfl, rfl⟩, by decide, by decide⟩, ⟨rfl, rfl⟩, by decide, ⟨⟨rfl, rfl⟩, by decide, by decide⟩, uninit_idle _⟩

/-- The flush of each command delivers pairs in its first round and ends in its second. -/
theorem witness_FlushIsRepeatedMix :
    Active retuned { sound0 with ring := flat 20 100 } ∧ sound0.memoS ≠ some ⟨83, 0, sound0.hostRate⟩ ∧
    sound0.memoS ≠ some ⟨83, 0, 22579200⟩ ∧
    exec .frequpd retuned = .next (after .frequpd retuned) ∧ (after .frequpd retuned).sound ≠ none ∧
    exec .rateupd retuned = .next (after .rateupd retuned) ∧ (after .rateupd retuned).sound ≠ none ∧
    (after .rateupd retuned).host.calls = [.getBuffer 4, .buffered (flat 2 99) 2, .getBuffer 0] :=
  ⟨⟨rfl, rfl⟩, by decide, by decide, exec_of_runs (by decide), by decide, exec_of_runs (by decide), by decide, by decide⟩

theorem witness_RateupdTakesTheNewRate :
    (Active retuned { sound0 with ring := flat 20 100 } ∧ retuned.ports.hostRateIn ≠ 0 ∧
      sound0.memoS ≠ some ⟨retuned.ports.sndFreq, retuned.ports.clkSel, retuned.ports.hostRateIn⟩) ∧
    (Active (withPorts fun p => { p with hostRateIn := 45158400 }) sound0 ∧
      sound0.memoS = some ⟨act.ports.sndFreq, act.ports.clkSel, 45158400⟩) ∧
    Active (withPorts fun p => { p with hostRateIn := 0 }) sound0 ∧ Uninit (idle .leftFirst) :=
  ⟨⟨⟨rfl, rfl⟩, by decide, by decide⟩, ⟨⟨rfl, rfl⟩, by decide⟩, ⟨rfl, rfl⟩, uninit_idle _⟩

/-- K18, K19; K21, K22; K7 at its edge, K8 at its edge, K12, K13. -/
theorem witness_ClassifyCases :
    ((cfg.fudgeStep : Int) < 65 ∧ (64 : Int) ≤ cfg.fudgeStep) ∧
    ((4096 : Nat) ≠ 0 ∧ ((4096 : Nat) : Int) - (4096 : Nat) < (1 : Nat) ∧ (-65 : Int) < -(cfg.fudgeStep : Int) ∧
      -(cfg.fudgeStep : Int) ≤ -64) ∧
    (((0 : Nat) : Int) ≤ (4096 : Nat) - (1023 : Nat) ∧ 1023 < 4096 / 4 ∧ 4096 / 4 ≤ 3073 ∧ 3 * 4096 / 4 < 3073 ∧
      4096 / 4 ≤ 1024 ∧ 3072 ≤ 3 * 4096 / 4) := by decide

theorem witness_FeedbkWritesFudgeRate : Active act sound0 ∧ Uninit (idle .leftFirst) := ⟨active_act, uninit_idle _⟩

theorem witness_FeedbackAfterADelivery :
    { cfg with hasHostFeedback := false }.hasHostFeedback = false ∧ cfg.hasHostFeedback = true := by decide

/-- K7 and K25; K26 and K8. -/
theorem witness_FeedbackOpposesTheOccupancy :
    cfg.WellFormed ∧ (((0 : Nat) : Int) ≤ (4096 : Nat) - (1000 : Nat) ∧ 1000 < 4096 / 4) ∧
    ((5000 : Nat) ≠ 0 ∧ ((4096 : Nat) : Int) - (5000 : Nat) < (0 : Nat)) ∧ (4096 / 4 ≤ 3073 ∧ 3 * 4096 / 4 < 3073) := by
  decide

/-- K15: half full; and the edges K12, K13. -/
theorem witness_FudgeRateConverges :
    (0 < 2048 ∧ 4096 / 4 ≤ 2048 ∧ 2048 ≤ 3 * 4096 / 4 ∧ ((2048 : Nat) : Int) ≤ (4096 : Nat) - (2048 : Nat)) ∧
    (4096 / 4 ≤ 1024 ∧ 3072 ≤ 3 * 4096 / 4) ∧ (-5 : Int).natAbs ≤ 5 := by decide

/-- `memoD` of the ports, and another. -/
theorem witness_TickRearmsTheTimer :
    (Active act sound0 ∧ sound0.memoD = some ⟨act.ports.sndFreq, act.ports.clkSel, act.ports.tickRate⟩) ∧
    (Active retuned { sound0 with ring := flat 20 100 } ∧
      sound0.memoD ≠ some ⟨retuned.ports.sndFreq, retuned.ports.clkSel, retuned.ports.tickRate⟩) :=
  ⟨⟨active_act, by decide⟩, ⟨rfl, rfl⟩, by decide⟩

/-- T4, T1, T2 and T6: swap, wrap, neither, and DMA off, with the units each fetches. -/
theorem witness_TickMovesThePointers :
    (∃ p : Ports, Active (withPorts fun _ => p) sound0 ∧ p.dmaEn = true ∧ p.dmaEnd.toNat < p.dmaCur.toNat ∧
      p.dmaNextValid = true ∧ ((0 : Nat) : Int) = max 0 (min (batchUnits sound0 : Int)
        (min (((p.dmaNextEnd.toNat : Int) + 16 - p.dmaNextStart.toNat) / 16) (((cfg.ringCap : Int) - sound0.ring.length) / 16)))) ∧
    (∃ p : Ports, Active (withPorts fun _ => p) sound0 ∧ p.dmaEn = true ∧ p.dmaEnd.toNat < p.dmaCur.toNat ∧
      p.dmaNextValid = false ∧ ((2 : Nat) : Int) = max 0 (min (batchUnits sound0 : Int)
        (min (((p.dmaEnd.toNat : Int) + 16 - p.dmaStart.toNat) / 16) (((cfg.ringCap : Int) - sound0.ring.length) / 16)))) ∧
    (∃ p : Ports, Active (withPorts fun _ => p) sound0 ∧ p.dmaEn = true ∧ p.dmaCur.toNat = p.dmaEnd.toNat ∧
      ((1 : Nat) : Int) = max 0 (min (batchUnits sound0 : Int)
        (min (((p.dmaEnd.toNat : Int) + 16 - p.dmaCur.toNat) / 16) (((cfg.ringCap : Int) - sound0.ring.length) / 16)))) ∧
    (∃ p : Ports, Active (withPorts fun _ => p) sound0 ∧ p.dmaEn = false ∧ p.dmaEnd.toNat < p.dmaCur.toNat) :=
  ⟨⟨{ ports0 with dmaEn := true, dmaCur := 0x1020, dmaNextValid := true, dmaNextStart := 0x2000, dmaNextEnd := 0x1FF0 },
      ⟨rfl, rfl⟩, by decide⟩,
    ⟨{ ports0 with dmaEn := true, dmaCur := 0x1020 }, ⟨rfl, rfl⟩, by decide⟩,
    ⟨{ ports0 with dmaEn := true, dmaCur := 0x1010 }, ⟨rfl, rfl⟩, by decide⟩,
    ⟨{ ports0 with dmaCur := 0x1020 }, ⟨rfl, rfl⟩, by decide⟩⟩

/-- `ready` with DMA on and the pointer past the end of its buffer, the next one latched. -/
def swapping : State := { ready with ports := { ports0 with
  dmaEn := true, dmaCur := 0x1020, dmaNextValid := true, dmaNextStart := 0x1000, dmaNextEnd := 0x1000 } }

theorem witness_InterruptRaisedExactlyOnASwap :
    exec .tick swapping = .next (after .tick swapping) ∧ exec .mix ready = .next (after .mix ready) :=
  ⟨exec_of_runs (by decide), exec_of_runs (by decide)⟩

theorem witness_FetchStaysInsideTheBuffer : (flat 40 0).length ≤ 40 := by decide

theorem witness_TickWithDmaOff : Active ready { sound0 with ring := flat 20 100 } ∧ ready.ports.dmaEn = false :=
  ⟨⟨rfl, rfl⟩, rfl⟩

theorem witness_TickIsL2lThenMix :
    Active swapping { sound0 with ring := flat 20 100 } ∧
    { sound0 with ring := flat 20 100 }.ringCount ≤ swapping.params.ringCap ∧
    exec .tick swapping = .next (after .tick swapping) :=
  ⟨⟨rfl, rfl⟩, by decide, exec_of_runs (by decide)⟩

theorem witness_WritersOfEachField :
    (∀ i ∈ [Instr.shutdown, .lookup 9, .panupd, .frequpd, .rateupd, .tick, .l2l 1, .mix, .feedbk],
      runs i swapping = true) ∧
    runs .init (idle .leftFirst) = true ∧ swapping.sound ≠ none ∧ (after .tick swapping).sound ≠ none := by decide

theorem witness_StepKeepsTheInvariant :
    StateInv { ready with inputs := [.command 0x09000000] } ∧
    ∃ t, step { ready with inputs := [.command 0x09000000] } = .next t := by
  refine ⟨{ ready_inv with }, ?_⟩
  have hs : step { ready with inputs := [.command 0x09000000] } = exec .mix ready := rfl
  exact ⟨after .mix ready, hs.trans (exec_of_runs (by decide))⟩

theorem witness_MemoryReadAfterWrite : mem7.wf ∧ Memory.wf [] := by decide

end Sys2Proof.Tests
end

section
/-! The family of 10_state.md: who writes each field (R49), the invariant (R47) and that every step keeps it, the state at
reset (R48), and what a step does with the command port (R22). -/

namespace Sys2Proof.Machine

/-! ## What a command leaves when it answers a next state

One inversion lemma per command; the plain ones follow from `requireActive_next` alone. -/

section Inversion
variable {s t : State}

/-- `INIT` (46_lifecycle.md R190) ended with E1, or created the `SoundState`. -/
theorem execInit_next (h : execInit s = .next t) :
    Uninit s ∧
    (t = takeInitFailure (s.setHost s.host.callInit) ∨
      ∃ rate batch sense, rate ≠ 0 ∧ batch ≠ 0 ∧
        t = (((s.setSound (createSound s.params s.ports s.host.callInit rate batch sense).1).setHost
          s.host.callInit).setSched (.armed (s.ports.now + MIN_INTERVAL))).setResult 0) := by
  obtain ⟨hs, hk⟩ := requireUninit_next h
  refine ⟨hs, ?_⟩
  dsimp only at hk
  split at hk
  · cases hk
    exact .inl rfl
  · next rate batch sense _ =>
    split at hk
    · cases hk
    · next hz =>
      cases hk
      obtain ⟨hr, hb⟩ := not_or.mp hz
      exact .inr ⟨rate, batch, sense, hr, hb, rfl⟩

/-- `SHUTDOWN` (46_lifecycle.md R192) released everything, or ended with E2. -/
theorem execShutdown_next (h : execShutdown s = .next t) :
    ∃ v, Active s v ∧
      (t = ((s.setSched .idle).setHost s.host.callQuit).setSound none ∨ t = takeFatalConsistency s) := by
  obtain ⟨v, hv, hk⟩ := requireActive_next h
  refine ⟨v, hv, ?_⟩
  split at hk
  · cases hk
    exact .inl rfl
  · cases hk
    exact .inr rfl

theorem execLookup_next {code : Byte} (h : execLookup code s = .next t) :
    ∃ v, Active s v ∧ t = s.setResult (tableAt v.logTable code) := by
  obtain ⟨v, hv, ⟨⟩⟩ := requireActive_next h
  exact ⟨v, hv, rfl⟩

theorem execPanupd_next (h : execPanupd s = .next t) :
    ∃ v, Active s v ∧ t = s.setSound (v.setPan (panMatrixOf v.stereoSense s.ports.panReg)) := by
  obtain ⟨v, hv, ⟨⟩⟩ := requireActive_next h
  exact ⟨v, hv, rfl⟩

theorem execFrequpd_next (h : execFrequpd s = .next t) :
    ∃ v, Active s v ∧
      t = (s.setSound (updateStep s.params s.ports true (updateDmaRate s.params s.ports v) s.host).1).setHost
        (updateStep s.params s.ports true (updateDmaRate s.params s.ports v) s.host).2 := by
  obtain ⟨v, hv, ⟨⟩⟩ := requireActive_next h
  exact ⟨v, hv, rfl⟩

/-- What `RATEUPD` leaves in the `SoundState` and the host sink (45_fetch_scheduler.md R181). -/
def rateUpdated (s : State) (v : SoundState) : SoundState × HostSink :=
  updateStep s.params s.ports false
    ((rateFlush s.params s.ports v s.host).sound.setHostRate s.ports.hostRateIn)
    (rateFlush s.params s.ports v s.host).host

theorem execRateupd_next (h : execRateupd s = .next t) :
    ∃ v, Active s v ∧ s.ports.hostRateIn ≠ 0 ∧
      t = (s.setSound (rateUpdated s v).1).setHost (rateUpdated s v).2 := by
  obtain ⟨v, hv, hk⟩ := requireActive_next h
  dsimp only at hk
  split at hk
  · cases hk
  · next hr =>
    cases hk
    exact ⟨v, hv, hr, rfl⟩

/-- The units `TICK` fetches (45_fetch_scheduler.md R175). -/
def tickAvail (s : State) (v : SoundState) : Nat :=
  availUnits s.params (swapOrWrap s.ports) (updateDmaRate s.params s.ports v)

/-- The `SoundState` after steps 1 to 4 of `TICK`, before it mixes (45_fetch_scheduler.md R172). -/
def tickFetched (s : State) (v : SoundState) : SoundState :=
  appendUnits s.mem (swapOrWrap s.ports).dmaCur (updateDmaRate s.params s.ports v) (tickAvail s v)

theorem execTick_next (h : execTick s = .next t) :
    ∃ v time, Active s v ∧
      t = (((s.setSound (mixBody s.params (tickFetched s v) s.host).sound).setHost
        (mixBody s.params (tickFetched s v) s.host).host).setPorts
          (advancePointer (swapOrWrap s.ports) (tickAvail s v))).setSched (.armed time) := by
  obtain ⟨v, hv, ⟨⟩⟩ := requireActive_next h
  exact ⟨v, _, hv, rfl⟩

theorem execL2l_next {avail : Nat} (h : execL2l avail s = .next t) :
    ∃ v, Active s v ∧ v.ringCount + UNIT_BYTES * avail ≤ s.params.ringCap ∧
      t = s.setSound (appendUnits s.mem s.ports.dmaCur v avail) := by
  obtain ⟨v, hv, hk⟩ := requireActive_next h
  split at hk
  · next fits =>
    cases hk
    exact ⟨v, hv, fits, rfl⟩
  · cases hk

theorem execMix_next (h : execMix s = .next t) :
    ∃ v, Active s v ∧
      t = (s.setSound (mixBody s.params v s.host).sound).setHost (mixBody s.params v s.host).host := by
  obtain ⟨v, hv, ⟨⟩⟩ := requireActive_next h
  exact ⟨v, hv, rfl⟩

theorem execFeedbk_next (h : execFeedbk s = .next t) :
    ∃ v, Active s v ∧
      t = s.setSound (v.setFudge (classify s.params v.fudgeRate (sampledReport s.ports))) := by
  obtain ⟨v, hv, ⟨⟩⟩ := requireActive_next h
  exact ⟨v, hv, rfl⟩

end Inversion

/-! ## The range of a decoded and panned sample (42_log2lin.md R123) -/

/-- Every entry of the built table is in the range of R123. -/
theorem logLin_range (code : Byte) : SampleRange (logLin code) := by
  revert code
  decide

theorem panCouples_le {g : Gain} (h : g ∈ panCouples) : g.g0 ≤ 65536 ∧ g.g1 ≤ 65536 := by
  revert g
  decide

/-- A gain of at most one keeps a sample in range, rounding toward minus infinity included. -/
theorem shr_gain_range {g : Nat} {x : Int} (hg : g ≤ 65536) (hx : SampleRange x) : SampleRange (shr (g * x) 16) := by
  obtain ⟨lo, hi⟩ := hx
  have below : (-32604 : Int) * 65536 ≤ g * x := by nlinarith
  have above : (g : Int) * x ≤ 32604 * 65536 := by nlinarith
  unfold shr
  constructor <;> omega

theorem gainAt_mem (m : Vector Gain 8) (j : Nat) : gainAt m j ∈ m.toList := by
  simp [gainAt]

/-- Every pair a fetch decodes is in range. -/
theorem decodeUnits_range {p : Params} {v : SoundState} (inv : SoundInv p v) (mem : Memory) (cur : Addr) (avail : Nat) :
    ∀ x ∈ decodeUnits mem cur v avail, PairRange x := by
  intro x hx
  obtain ⟨j, -, rfl⟩ := List.mem_map.mp hx
  obtain ⟨h0, h1⟩ := panCouples_le (inv.pan_legal _ (gainAt_mem v.panMatrix j))
  have hv : SampleRange (tableAt v.logTable (mem.read (cur + BitVec.ofNat 32 j))) := by
    rw [inv.table_built]
    exact logLin_range _
  exact ⟨shr_gain_range h0 hv, shr_gain_range h1 hv⟩

/-! ## The shared operations keep the invariant of the `SoundState` -/

section SoundInvariant
variable {p : Params} {v v' : SoundState}

theorem stepFor_pos (p : Params) (k : StepKey) : 1 ≤ stepFor p k := Nat.le_max_left ..

theorem dmaRateFor_pos (p : Params) (k : DmaKey) : 1 ≤ dmaRateFor p k := Nat.le_max_left ..

/-- Every entry of a matrix the pan registers stand for is legal (41_pan.md R111, R112). -/
theorem panMatrixOf_legal (sense : StereoSense) (regs : Vector (BitVec 4) 8) :
    ∀ g ∈ (panMatrixOf sense regs).toList, g ∈ panCouples := by
  intro g hg
  obtain ⟨ch, hch, rfl⟩ := Vector.getElem_of_mem (Vector.mem_toList_iff.mp hg)
  rw [panMatrixOf_get]
  exact panGain_couple _

theorem soundInv_setFudge (inv : SoundInv p v) (f : Int) : SoundInv p (v.setFudge f) :=
  { inv with }

theorem soundInv_setPan (inv : SoundInv p v) (sense : StereoSense) (regs : Vector (BitVec 4) 8) :
    SoundInv p (v.setPan (panMatrixOf sense regs)) :=
  { inv with pan_legal := panMatrixOf_legal sense regs }

/-- Mixing only drains the ring and keeps `resampleTime` a fraction. -/
theorem soundInv_onlyMixed (inv : SoundInv p v) (h : OnlyMixed v v') : SoundInv p v' where
  ring_fits := h.ring.length_le.trans inv.ring_fits
  time_fraction := h.time inv.time_fraction
  step_pos := h.resampleStep ▸ inv.step_pos
  table_built := h.logTable ▸ inv.table_built
  pan_legal := h.panMatrix ▸ inv.pan_legal
  ring_range x hx := inv.ring_range x (h.ring.subset hx)
  batch_pos := h.batchSize ▸ inv.batch_pos
  dma_pos := h.dmaRate ▸ inv.dma_pos
  host_rate_pos := h.hostRate ▸ inv.host_rate_pos
  scale_matches := by rw [h.outputScale, h.resampleStep, inv.scale_matches]
  memoD_matches := by simpa only [h.memoD, h.dmaRate] using inv.memoD_matches
  memoS_matches := by simpa only [h.memoS, h.hostRate, h.resampleStep] using inv.memoS_matches

/-- A fetch that fits appends pairs in range (42_log2lin.md R121, R123). -/
theorem soundInv_appendUnits (inv : SoundInv p v) (mem : Memory) (cur : Addr) {avail : Nat}
    (fits : v.ringCount + UNIT_BYTES * avail ≤ p.ringCap) : SoundInv p (appendUnits mem cur v avail) :=
  { inv with
    ring_fits := by
      rw [appendUnits, SoundState.ringCount_setRing, List.length_append, decodeUnits_length]
      exact fits
    ring_range := fun x hx => (List.mem_append.mp hx).elim (inv.ring_range x) (decodeUnits_range inv mem cur avail x) }

theorem soundInv_updateDmaRate (inv : SoundInv p v) (ports : Ports) : SoundInv p (updateDmaRate p ports v) := by
  by_cases hk : v.memoD = some (dmaKey ports)
  · rwa [updateDmaRate_hit hk]
  · rw [updateDmaRate_miss hk]
    exact { inv with dma_pos := dmaRateFor_pos p _, memoD_matches := ⟨_, rfl, rfl⟩ }

/-- A new host rate with the coefficients its key gives (43_resampler.md R131). -/
theorem soundInv_setHostRate_setStep (inv : SoundInv p v) {k : StepKey} (hk : k.hostRate ≠ 0) :
    SoundInv p ((v.setHostRate k.hostRate).setStep (stepFor p k) (scaleFor (stepFor p k)) k) :=
  { inv with
    step_pos := stepFor_pos p k
    host_rate_pos := hk
    scale_matches := rfl
    memoS_matches := ⟨k, rfl, rfl, rfl⟩ }

/-- `UpdateStep` with a flush, at the host rate held (43_resampler.md R131). -/
theorem soundInv_updateStep_flush (inv : SoundInv p v) (ports : Ports) (h : HostSink) :
    SoundInv p (updateStep p ports true v h).1 := by
  by_cases hk : v.memoS = some (stepKey ports v.hostRate)
  · rwa [updateStep_hit hk]
  · rw [updateStep_miss_flush hk]
    have mixed := flush_onlyMixed p v h
    have key : (stepKey ports v.hostRate).hostRate = (flush p v h).sound.hostRate := mixed.hostRate.symm
    have kept := soundInv_setHostRate_setStep (k := stepKey ports v.hostRate) (soundInv_onlyMixed inv mixed)
      inv.host_rate_pos
    rwa [key] at kept

/-- `UpdateStep` after a new host rate: the memo is hit only if the rate is the one already held. -/
theorem soundInv_updateStep_setHostRate (inv : SoundInv p v) (ports : Ports) (h : HostSink) {rate : BitVec 32}
    (hr : rate ≠ 0) : SoundInv p (updateStep p ports false (v.setHostRate rate) h).1 := by
  by_cases hk : v.memoS = some (stepKey ports rate)
  · rw [updateStep_hit hk]
    obtain ⟨k, hm, hrate, -⟩ := inv.memoS_matches
    have same : rate = v.hostRate := by
      rw [← hrate, Option.some.inj (hm.symm.trans hk)]
      rfl
    rwa [same]
  · rw [updateStep_miss hk]
    exact soundInv_setHostRate_setStep (k := stepKey ports rate) inv hr

/-- What `INIT` creates meets the invariant (46_lifecycle.md R190). -/
theorem soundInv_createSound (p : Params) (ports : Ports) (h : HostSink) {rate : BitVec 32} {batch : Nat}
    (sense : StereoSense) (hr : rate ≠ 0) (hb : batch ≠ 0) :
    SoundInv p (createSound p ports h rate batch sense).1 where
  ring_fits := Nat.zero_le _
  time_fraction := Nat.two_pow_pos 9
  step_pos := stepFor_pos p _
  table_built := logTable_at
  pan_legal := panMatrixOf_legal sense ports.panReg
  ring_range _ hx := absurd hx List.not_mem_nil
  batch_pos := Nat.one_le_iff_ne_zero.mpr hb
  dma_pos := dmaRateFor_pos p _
  host_rate_pos := hr
  scale_matches := rfl
  memoD_matches := ⟨_, rfl, rfl⟩
  memoS_matches := ⟨_, rfl, rfl, rfl⟩

/-- The units `TICK` fetches fit (45_fetch_scheduler.md R175), so it needs no overrun test. -/
theorem availUnits_fits (ports : Ports) (h : v.ringCount ≤ p.ringCap) :
    v.ringCount + UNIT_BYTES * availUnits p ports v ≤ p.ringCap := by
  unfold availUnits
  split
  · simp only [UNIT_BYTES_eq]
    omega
  · exact h

end SoundInvariant

/-! ## Every command and every step keeps the invariant -/

section StateInvariant
variable {s t : State}

/-- A command that leaves the block `Active` and armed has only the `SoundState` to answer for. -/
theorem stateInv_of_active {v : SoundState} (inv : StateInv s) (mem : t.mem = s.mem) (params : t.params = s.params)
    (armed : t.sched.isArmed = true) (sound : t.sound = some v) (hv : SoundInv s.params v) : StateInv t where
  mem_wf := mem ▸ inv.mem_wf
  armed_iff_active := by rw [armed, sound, Option.isSome_some]
  fatal_active _ := by rw [sound, Option.isSome_some]
  sound_inv w hw := by
    rw [sound, Option.some.injEq] at hw
    rw [params, ← hw]
    exact hv

/-- A command that leaves the timer entry as it was. -/
theorem stateInv_of_sound {v v' : SoundState} (inv : StateInv s) (hv : Active s v) (mem : t.mem = s.mem)
    (params : t.params = s.params) (sched : t.sched = s.sched) (sound : t.sound = some v')
    (keeps : SoundInv s.params v → SoundInv s.params v') : StateInv t :=
  stateInv_of_active inv mem params (by rw [sched, inv.armed_iff_active, hv.2, Option.isSome_some]) sound
    (keeps (inv.sound_inv v hv.2))

theorem exec_keeps_inv {i : Instr} (inv : StateInv s) (h : exec i s = .next t) : StateInv t := by
  cases i with
  | init =>
    obtain ⟨-, rfl | ⟨rate, batch, sense, hr, hb, rfl⟩⟩ := execInit_next h
    · exact { inv with }
    · exact stateInv_of_active inv rfl rfl rfl rfl (soundInv_createSound _ _ _ sense hr hb)
  | shutdown =>
    obtain ⟨v, hv, rfl | rfl⟩ := execShutdown_next h
    · exact { inv with
        armed_iff_active := rfl
        fatal_active := fun hf => absurd (hv.1.symm.trans hf) Bool.false_ne_true
        sound_inv := fun _ hw => nomatch hw }
    · exact stateInv_of_sound inv hv rfl rfl rfl hv.2 id
  | lookup code =>
    obtain ⟨v, hv, rfl⟩ := execLookup_next h
    exact { inv with }
  | panupd =>
    obtain ⟨v, hv, rfl⟩ := execPanupd_next h
    exact stateInv_of_sound inv hv rfl rfl rfl rfl fun sinv => soundInv_setPan sinv _ _
  | frequpd =>
    obtain ⟨v, hv, rfl⟩ := execFrequpd_next h
    exact stateInv_of_sound inv hv rfl rfl rfl rfl fun sinv =>
      soundInv_updateStep_flush (soundInv_updateDmaRate sinv _) _ _
  | rateupd =>
    obtain ⟨v, hv, hr, rfl⟩ := execRateupd_next h
    obtain ⟨mixed, -⟩ := rateFlush_onlyMixed s.params s.ports v s.host
    exact stateInv_of_sound inv hv rfl rfl rfl rfl fun sinv =>
      soundInv_updateStep_setHostRate (soundInv_onlyMixed sinv mixed) _ _ hr
  | tick =>
    obtain ⟨v, time, hv, rfl⟩ := execTick_next h
    have rated := soundInv_updateDmaRate (inv.sound_inv v hv.2) s.ports
    have fetched : SoundInv s.params (tickFetched s v) :=
      soundInv_appendUnits rated _ _ (availUnits_fits _ rated.ring_fits)
    exact stateInv_of_active inv rfl rfl rfl rfl (soundInv_onlyMixed fetched (mixBody_onlyMixed ..))
  | l2l avail =>
    obtain ⟨v, hv, fits, rfl⟩ := execL2l_next h
    exact stateInv_of_sound inv hv rfl rfl rfl rfl fun sinv => soundInv_appendUnits sinv _ _ fits
  | mix =>
    obtain ⟨v, hv, rfl⟩ := execMix_next h
    exact stateInv_of_sound inv hv rfl rfl rfl rfl fun sinv => soundInv_onlyMixed sinv (mixBody_onlyMixed ..)
  | feedbk =>
    obtain ⟨v, hv, rfl⟩ := execFeedbk_next h
    exact stateInv_of_sound inv hv rfl rfl rfl rfl fun sinv => soundInv_setFudge sinv _

/-- An external agent writes no field the invariant reads but memory, and that in its canonical form. -/
theorem external_keeps_inv (x : ExternalWrite) (inv : StateInv s) : StateInv (s.external x) := by
  obtain ⟨sound, sched, fatal, -, params, -⟩ := external_block_fields s x
  exact {
    mem_wf := external_keeps_wf x inv.mem_wf
    armed_iff_active := by rw [sched, sound, inv.armed_iff_active]
    fatal_active := by rw [fatal, sound]; exact inv.fatal_active
    sound_inv := by rw [sound, params]; exact inv.sound_inv }

theorem setInputs_keeps_inv (inputs : List Input) (inv : StateInv s) : StateInv (s.setInputs inputs) :=
  { inv with }

theorem setPorts_keeps_inv (ports : Ports) (inv : StateInv s) : StateInv (s.setPorts ports) :=
  { inv with }

end StateInvariant

/-- Settles O54: a step holds, lets an external agent act, or runs a command, and each keeps the invariant. -/
theorem stepKeepsTheInvariant : Obligations.StepKeepsTheInvariant := by
  intro s t inv h
  rcases step_next_cases h with rfl | acted | ⟨i, u, issued, run⟩
  · exact inv
  · obtain ⟨rest, rfl | ⟨x, rfl⟩⟩ := takeInput_acted acted
    · exact setInputs_keeps_inv rest inv
    · exact external_keeps_inv x (setInputs_keeps_inv rest inv)
  · obtain ⟨rest, ports, rfl, -⟩ := takeInput_issue issued
    exact exec_keeps_inv (setPorts_keeps_inv ports (setInputs_keeps_inv rest inv)) run

/-- Settles O55: memory is empty, and with no `SoundState` the rest asks nothing. -/
theorem resetMeetsTheInvariant : Obligations.ResetMeetsTheInvariant where
  mem_wf := reset_mem_wf
  armed_iff_active := rfl
  fatal_active hf := nomatch hf
  sound_inv _ hv := nomatch hv

/-- Settles O10: the three fields R48 gives. -/
theorem powerOnState : Obligations.PowerOnState :=
  ⟨rfl, rfl, rfl⟩

/-! ## Who writes each field (10_state.md R49) -/

/-- R49 for the fields outside the `SoundState`: each is as before unless the command is one of its writers. -/
structure BlockFrame (i : Instr) (s t : State) : Prop where
  life : i ∉ [.init, .shutdown] → t.sound.isSome = s.sound.isSome
  sched : i ∉ [.init, .tick, .shutdown] → t.sched = s.sched
  fatal : i ≠ .shutdown → t.fatal = s.fatal
  result : i ≠ .init → (∀ code, i ≠ .lookup code) → t.result = s.result
  ports : i ≠ .tick → t.ports = s.ports
  dmaPorts : t.ports = { s.ports with
    dmaCur := t.ports.dmaCur, dmaStart := t.ports.dmaStart, dmaEnd := t.ports.dmaEnd,
    dmaNextValid := t.ports.dmaNextValid, sndIrq := t.ports.sndIrq }
  mem : t.mem = s.mem
  params : t.params = s.params
  schedFinds : t.schedFinds = s.schedFinds
  inputs : t.inputs = s.inputs
  initAnswer : t.host.initAnswer = s.host.initAnswer

/-- R49 for the fields of the `SoundState`, for the commands that do not create it. -/
structure SoundFrame (i : Instr) (v v' : SoundState) : Prop where
  batchSize : v'.batchSize = v.batchSize
  stereoSense : v'.stereoSense = v.stereoSense
  logTable : v'.logTable = v.logTable
  hostRate : i ≠ .rateupd → v'.hostRate = v.hostRate
  dmaRate : i ∉ [.frequpd, .tick] → v'.dmaRate = v.dmaRate ∧ v'.memoD = v.memoD
  step : i ∉ [.frequpd, .rateupd] →
    v'.resampleStep = v.resampleStep ∧ v'.outputScale = v.outputScale ∧ v'.memoS = v.memoS
  panMatrix : i ≠ .panupd → v'.panMatrix = v.panMatrix
  ring : i ∉ [.mix, .tick, .frequpd, .rateupd] → (∀ avail, i ≠ .l2l avail) → v'.ring = v.ring
  time : i ∉ [.mix, .tick, .frequpd, .rateupd] → v'.resampleTime = v.resampleTime
  fudge : i ∉ [.feedbk, .mix, .tick, .frequpd, .rateupd] → v'.fudgeRate = v.fudgeRate

section Frames
variable {i : Instr} {s t : State} {p : Params} {v v' w : SoundState}

theorem soundFrame_refl (i : Instr) (v : SoundState) : SoundFrame i v v where
  batchSize := rfl
  stereoSense := rfl
  logTable := rfl
  hostRate _ := rfl
  dmaRate _ := ⟨rfl, rfl⟩
  step _ := ⟨rfl, rfl, rfl⟩
  panMatrix _ := rfl
  ring _ _ := rfl
  time _ := rfl
  fudge _ := rfl

theorem soundFrame_trans (h : SoundFrame i v v') (k : SoundFrame i v' w) : SoundFrame i v w where
  batchSize := k.batchSize.trans h.batchSize
  stereoSense := k.stereoSense.trans h.stereoSense
  logTable := k.logTable.trans h.logTable
  hostRate hi := (k.hostRate hi).trans (h.hostRate hi)
  dmaRate hi := ⟨(k.dmaRate hi).1.trans (h.dmaRate hi).1, (k.dmaRate hi).2.trans (h.dmaRate hi).2⟩
  step hi := by
    obtain ⟨hs, ho, hm⟩ := h.step hi
    obtain ⟨ks, ko, km⟩ := k.step hi
    exact ⟨ks.trans hs, ko.trans ho, km.trans hm⟩
  panMatrix hi := (k.panMatrix hi).trans (h.panMatrix hi)
  ring hi ha := (k.ring hi ha).trans (h.ring hi ha)
  time hi := (k.time hi).trans (h.time hi)
  fudge hi := (k.fudge hi).trans (h.fudge hi)

/-- Mixing, in the commands that mix. -/
theorem onlyMixed_frame (hi : i ∈ [.mix, .tick, .frequpd, .rateupd]) (h : OnlyMixed v v') : SoundFrame i v v' where
  batchSize := h.batchSize
  stereoSense := h.stereoSense
  logTable := h.logTable
  hostRate _ := h.hostRate
  dmaRate _ := ⟨h.dmaRate, h.memoD⟩
  step _ := ⟨h.resampleStep, h.outputScale, h.memoS⟩
  panMatrix _ := h.panMatrix
  ring hn := absurd hi hn
  time hn := absurd hi hn
  fudge hn := absurd (List.mem_cons_of_mem _ hi) hn

/-- `UpdateDmaRate`, in the commands that run it. -/
theorem updateDmaRate_frame (hi : i ∈ [.frequpd, .tick]) (p : Params) (ports : Ports) (v : SoundState) :
    SoundFrame i v (updateDmaRate p ports v) := by
  by_cases hk : v.memoD = some (dmaKey ports)
  · rw [updateDmaRate_hit hk]
    exact soundFrame_refl i v
  · rw [updateDmaRate_miss hk]
    exact { soundFrame_refl i v with dmaRate := fun hn => absurd hi hn }

theorem setStep_frame (hi : i ∈ [.frequpd, .rateupd]) (v : SoundState) (step scale : Nat) (key : StepKey) :
    SoundFrame i v (v.setStep step scale key) :=
  { soundFrame_refl i v with step := fun hn => absurd hi hn }

/-- `UpdateStep`, in the commands that run it. -/
theorem updateStep_frame (hi : i ∈ [.frequpd, .rateupd]) (p : Params) (ports : Ports) (withFlush : Bool)
    (v : SoundState) (h : HostSink) : SoundFrame i v (updateStep p ports withFlush v h).1 := by
  by_cases hk : v.memoS = some (stepKey ports v.hostRate)
  · rw [updateStep_hit hk]
    exact soundFrame_refl i v
  · cases withFlush with
    | false =>
      rw [updateStep_miss hk]
      exact setStep_frame hi ..
    | true =>
      rw [updateStep_miss_flush hk]
      have mixes : i ∈ [.mix, .tick, .frequpd, .rateupd] := List.mem_cons_of_mem _ (List.mem_cons_of_mem _ hi)
      exact soundFrame_trans (onlyMixed_frame mixes (flush_onlyMixed p v h)) (setStep_frame hi ..)

theorem appendUnits_frame (hi : i = .tick ∨ ∃ avail, i = .l2l avail) (mem : Memory) (cur : Addr) (v : SoundState)
    (n : Nat) : SoundFrame i v (appendUnits mem cur v n) :=
  { soundFrame_refl i v with
    ring := fun hn ha => by
      rcases hi with rfl | ⟨avail, rfl⟩
      · exact absurd (by decide) hn
      · exact absurd rfl (ha avail) }

theorem updateStep_hostAdvanced (p : Params) (ports : Ports) (withFlush : Bool) (v : SoundState) (h : HostSink) :
    HostAdvanced h (updateStep p ports withFlush v h).2 := by
  by_cases hk : v.memoS = some (stepKey ports v.hostRate)
  · rw [updateStep_hit hk]
    exact hostAdvanced_refl h
  · cases withFlush with
    | false =>
      rw [updateStep_miss hk]
      exact hostAdvanced_refl h
    | true =>
      rw [updateStep_miss_flush hk]
      exact flush_hostAdvanced p v h

/-- The swap and the wrap write five of the port registers (45_fetch_scheduler.md R174). -/
theorem swapOrWrap_frame (p : Ports) : swapOrWrap p = { p with
    dmaCur := (swapOrWrap p).dmaCur, dmaStart := (swapOrWrap p).dmaStart, dmaEnd := (swapOrWrap p).dmaEnd,
    dmaNextValid := (swapOrWrap p).dmaNextValid, sndIrq := (swapOrWrap p).sndIrq } := by
  unfold swapOrWrap
  split_ifs <;> rfl

theorem advancePointer_frame (p : Ports) (avail : Nat) : advancePointer (swapOrWrap p) avail = { p with
    dmaCur := (advancePointer (swapOrWrap p) avail).dmaCur, dmaStart := (swapOrWrap p).dmaStart,
    dmaEnd := (swapOrWrap p).dmaEnd, dmaNextValid := (swapOrWrap p).dmaNextValid, sndIrq := (swapOrWrap p).sndIrq } := by
  conv_lhs => rw [swapOrWrap_frame p]
  rfl

theorem blockFrame_refl (i : Instr) (s : State) : BlockFrame i s s :=
  ⟨fun _ => rfl, fun _ => rfl, fun _ => rfl, fun _ _ => rfl, fun _ => rfl, rfl, rfl, rfl, rfl, rfl, rfl⟩

/-- A command that writes the `SoundState` and calls the host sink writes nothing else of the block. -/
theorem blockFrame_setSound_setHost (i : Instr) (hv : Active s v) (v' : SoundState) {h : HostSink}
    (hh : HostAdvanced s.host h) : BlockFrame i s ((s.setSound (some v')).setHost h) :=
  { blockFrame_refl i s with
    life := fun _ => by simp [hv.2]
    initAnswer := hh.initAnswer }

theorem blockFrame_setSound (i : Instr) (hv : Active s v) (v' : SoundState) : BlockFrame i s (s.setSound (some v')) :=
  blockFrame_setSound_setHost i hv v' (hostAdvanced_refl s.host)

/-- Outside the `SoundState`, a command writes only what R49 lists it for. -/
theorem exec_blockFrame (h : exec i s = .next t) : BlockFrame i s t := by
  cases i with
  | init =>
    obtain ⟨-, rfl | ⟨rate, batch, sense, -, -, rfl⟩⟩ := execInit_next h
    · exact { blockFrame_refl .init s with result := fun hi => absurd rfl hi }
    · exact { blockFrame_refl .init s with
        life := fun hi => absurd (by decide) hi
        sched := fun hi => absurd (by decide) hi
        result := fun hi => absurd rfl hi }
  | shutdown =>
    obtain ⟨v, -, rfl | rfl⟩ := execShutdown_next h
    · exact { blockFrame_refl .shutdown s with
        life := fun hi => absurd (by decide) hi
        sched := fun hi => absurd (by decide) hi }
    · exact { blockFrame_refl .shutdown s with fatal := fun hi => absurd rfl hi }
  | lookup code =>
    obtain ⟨v, -, rfl⟩ := execLookup_next h
    exact { blockFrame_refl (.lookup code) s with result := fun _ hc => absurd rfl (hc code) }
  | panupd =>
    obtain ⟨v, hv, rfl⟩ := execPanupd_next h
    exact blockFrame_setSound _ hv _
  | frequpd =>
    obtain ⟨v, hv, rfl⟩ := execFrequpd_next h
    exact blockFrame_setSound_setHost _ hv _ (updateStep_hostAdvanced ..)
  | rateupd =>
    obtain ⟨v, hv, -, rfl⟩ := execRateupd_next h
    obtain ⟨-, flushed⟩ := rateFlush_onlyMixed s.params s.ports v s.host
    exact blockFrame_setSound_setHost _ hv _ (hostAdvanced_trans flushed (updateStep_hostAdvanced ..))
  | tick =>
    obtain ⟨v, time, hv, rfl⟩ := execTick_next h
    exact { blockFrame_setSound_setHost .tick hv _ (mixBody_hostAdvanced ..) with
      sched := fun hi => absurd (by decide) hi
      ports := fun hi => absurd rfl hi
      dmaPorts := advancePointer_frame s.ports (tickAvail s v) }
  | l2l avail =>
    obtain ⟨v, hv, -, rfl⟩ := execL2l_next h
    exact blockFrame_setSound _ hv _
  | mix =>
    obtain ⟨v, hv, rfl⟩ := execMix_next h
    exact blockFrame_setSound_setHost _ hv _ (mixBody_hostAdvanced ..)
  | feedbk =>
    obtain ⟨v, hv, rfl⟩ := execFeedbk_next h
    exact blockFrame_setSound _ hv _

/-- Inside the `SoundState`, a command other than `INIT` that leaves one writes only what R49 lists it for. -/
theorem exec_soundFrame (h : exec i s = .next t) (hi : i ≠ .init) (hw : t.sound = some w) :
    ∃ v, Active s v ∧ SoundFrame i v w := by
  cases i with
  | init => exact absurd rfl hi
  | shutdown =>
    obtain ⟨v, hv, rfl | rfl⟩ := execShutdown_next h
    · cases hw
    · cases hv.2.symm.trans hw
      exact ⟨w, hv, soundFrame_refl _ w⟩
  | lookup code =>
    obtain ⟨v, hv, rfl⟩ := execLookup_next h
    cases hv.2.symm.trans hw
    exact ⟨w, hv, soundFrame_refl _ w⟩
  | panupd =>
    obtain ⟨v, hv, rfl⟩ := execPanupd_next h
    cases hw
    exact ⟨v, hv, { soundFrame_refl .panupd v with panMatrix := fun hn => absurd rfl hn }⟩
  | frequpd =>
    obtain ⟨v, hv, rfl⟩ := execFrequpd_next h
    cases hw
    exact ⟨v, hv, soundFrame_trans (updateDmaRate_frame (by decide) ..) (updateStep_frame (by decide) ..)⟩
  | rateupd =>
    obtain ⟨v, hv, -, rfl⟩ := execRateupd_next h
    cases hw
    obtain ⟨mixed, -⟩ := rateFlush_onlyMixed s.params s.ports v s.host
    have rated : SoundFrame .rateupd v
        ((rateFlush s.params s.ports v s.host).sound.setHostRate s.ports.hostRateIn) :=
      { onlyMixed_frame (i := .rateupd) (by decide) mixed with hostRate := fun hn => absurd rfl hn }
    exact ⟨v, hv, soundFrame_trans rated (updateStep_frame (by decide) ..)⟩
  | tick =>
    obtain ⟨v, time, hv, rfl⟩ := execTick_next h
    cases hw
    have fetched : SoundFrame .tick v (tickFetched s v) :=
      soundFrame_trans (updateDmaRate_frame (by decide) ..) (appendUnits_frame (.inl rfl) ..)
    exact ⟨v, hv, soundFrame_trans fetched (onlyMixed_frame (by decide) (mixBody_onlyMixed ..))⟩
  | l2l avail =>
    obtain ⟨v, hv, -, rfl⟩ := execL2l_next h
    cases hw
    exact ⟨v, hv, appendUnits_frame (.inr ⟨avail, rfl⟩) ..⟩
  | mix =>
    obtain ⟨v, hv, rfl⟩ := execMix_next h
    cases hw
    exact ⟨v, hv, onlyMixed_frame (by decide) (mixBody_onlyMixed ..)⟩
  | feedbk =>
    obtain ⟨v, hv, rfl⟩ := execFeedbk_next h
    cases hw
    exact ⟨v, hv, { soundFrame_refl .feedbk v with fudge := fun hn => absurd (by decide) hn }⟩

end Frames

/-- Settles O53, by the frame of every command outside and inside the `SoundState`. -/
theorem writersOfEachField : Obligations.WritersOfEachField := by
  intro i s t h
  obtain ⟨life, sched, fatal, result, ports, dmaPorts, mem, params, finds, inputs, answer⟩ := exec_blockFrame h
  refine ⟨life, sched, fatal, result, ports, dmaPorts, mem, params, finds, inputs, answer, fun v v' hv hv' hi => ?_⟩
  obtain ⟨u, hu, batch, sense, table, rate, dma, step, pan, ring, time, fudge⟩ := exec_soundFrame h hi hv'
  cases hu.2.symm.trans hv
  exact ⟨batch, sense, table, rate, dma, step, pan, ring, time, fudge⟩

/-! ## What a step does with a command word (10_state.md R22) -/

theorem decode_of_decodeTableWord {nbits w : Nat} {i : Instr} (h : decodeTableWord nbits w = some i) :
    decode (tableWord nbits w) = .ok i := by
  unfold decodeTableWord at h
  split at h
  · next hd =>
    rw [hd, Option.some.inj h]
  · cases h

theorem step_command {s : State} {w : Word} {rest : List Input} {i : Instr} (hs : s.inputs = .command w :: rest)
    (hd : decode w = .ok i) : step s = exec i (s.setInputs rest) := by
  simp only [step, takeInput, issueWord, hs, hd]

/-- Settles O5: a placed word is a command word before the inputs that waited. -/
theorem stepRunsTheDecodedCommand : Obligations.StepRunsTheDecodedCommand :=
  ⟨fun _ _ _ _ => step_command, fun s nbits w _ hd =>
    step_command (s := s.withFetchWord nbits w) (rest := s.inputs) rfl (decode_of_decodeTableWord hd)⟩

end Sys2Proof.Machine
end

section
/-! The family of 20_memory.md: a written byte of emulated memory is read back (R60, R61), and the one fault is `INIT`
under a host that breaks its contract (R66). -/

namespace Sys2Proof.Machine

/-! ## Reading after a write (20_memory.md R61) -/

/-- Byte `b` at an address below every listed one: the entry to put first, and none if an unlisted byte reads the same.
`Memory.write` ends with this wherever the address falls. -/
def Memory.putFirst (m : Memory) (a : Addr) (b : Byte) : Memory :=
  if b = Memory.unlisted then m else (a.toNat, b) :: m

section MemoryRead
variable {m : Memory} {a c : Addr}

theorem Memory.read_cons (k : Nat) (x : Byte) (m : Memory) (a : Addr) :
    Memory.read ((k, x) :: m) a = if k = a.toNat then x else m.read a := rfl

theorem Memory.write_nil (a : Addr) (b : Byte) : Memory.write [] a b = Memory.putFirst [] a b := rfl

theorem Memory.write_cons (k : Nat) (x : Byte) (m : Memory) (a : Addr) (b : Byte) :
    Memory.write ((k, x) :: m) a b =
      if k < a.toNat then (k, x) :: m.write a b
      else if k = a.toNat then m.putFirst a b
      else Memory.putFirst ((k, x) :: m) a b := rfl

theorem Memory.read_eq_unlisted (above : ∀ d ∈ m, a.toNat < d.1) : m.read a = Memory.unlisted := by
  induction m with
  | nil => rfl
  | cons d m ih =>
    obtain ⟨hd, hm⟩ := List.forall_mem_cons.mp above
    rw [Memory.read_cons, if_neg hd.ne', ih hm]

theorem Memory.read_putFirst_same (b : Byte) (above : ∀ d ∈ m, a.toNat < d.1) : (m.putFirst a b).read a = b := by
  unfold Memory.putFirst
  split
  · next hb => rw [Memory.read_eq_unlisted above, hb]
  · rw [Memory.read_cons, if_pos rfl]

theorem Memory.read_putFirst_of_ne (m : Memory) (b : Byte) (h : a.toNat ≠ c.toNat) :
    (m.putFirst a b).read c = m.read c := by
  unfold Memory.putFirst
  split
  · rfl
  · rw [Memory.read_cons, if_neg h]

/-- The written byte is read back. An entry taken away is read as unlisted because the addresses rise strictly, so no
second entry for it follows. -/
theorem Memory.read_write_same (a : Addr) (b : Byte) (rising : m.Pairwise (fun c d => c.1 < d.1)) :
    (m.write a b).read a = b := by
  induction m with
  | nil => exact Memory.read_putFirst_same b (List.forall_mem_nil _)
  | cons d m ih =>
    obtain ⟨k, x⟩ := d
    obtain ⟨hk, hm⟩ := List.pairwise_cons.mp rising
    rw [Memory.write_cons]
    split_ifs with below at_k
    · rw [Memory.read_cons, if_neg below.ne, ih hm]
    · exact Memory.read_putFirst_same b (at_k ▸ hk)
    · have first : a.toNat < k := by omega
      exact Memory.read_putFirst_same b (List.forall_mem_cons.mpr ⟨first, fun d hd => first.trans (hk d hd)⟩)

/-- Every other byte reads as before, whatever the form of the memory. -/
theorem Memory.read_write_of_ne (m : Memory) (b : Byte) (h : a.toNat ≠ c.toNat) :
    (m.write a b).read c = m.read c := by
  induction m with
  | nil => exact Memory.read_putFirst_of_ne [] b h
  | cons d m ih =>
    obtain ⟨k, x⟩ := d
    rw [Memory.write_cons]
    split_ifs with below at_k
    · rw [Memory.read_cons, Memory.read_cons, ih]
    · rw [Memory.read_putFirst_of_ne m b h, Memory.read_cons, if_neg (at_k ▸ h)]
    · exact Memory.read_putFirst_of_ne _ b h

end MemoryRead

/-- Settles O56: the canonical form matters for the written byte alone. -/
theorem memoryReadAfterWrite : Obligations.MemoryReadAfterWrite := by
  rintro m a c b ⟨rising, -⟩
  split_ifs with h
  · rw [h, Memory.read_write_same a b rising]
  · exact Memory.read_write_of_ne m b fun same => h (BitVec.eq_of_toNat_eq same).symm

/-! ## The one fault (20_memory.md R66, 60_exceptions.md R212) -/

section Faults
variable {s : State} {f : Fault}

/-- A command that requires `Active` faults only in an active state, and then as its body does. -/
theorem requireActive_fault {k : SoundState → Answer} (h : requireActive s k = .fault f) :
    ∃ v, Active s v ∧ k v = .fault f := by
  simp only [requireActive] at h
  split at h
  · cases h
  · next hf =>
    split at h
    · cases h
    · next v hv => exact ⟨v, ⟨by simpa using hf, hv⟩, h⟩

/-- `INIT` faults only in `Uninit`, and then as its body does. -/
theorem requireUninit_fault {k : Answer} (h : requireUninit s k = .fault f) : Uninit s ∧ k = .fault f := by
  simp only [requireUninit] at h
  split at h
  · cases h
  · next hf =>
    split at h
    · next hv => exact ⟨⟨by simpa using hf, hv⟩, h⟩
    · cases h

/-- The host answers `HostInit()` with `ok` and a zero rate or batch, against 20_memory.md R66. -/
def BrokenHost (s : State) : Prop :=
  ∃ rate batch sense, s.host.initAnswer = .ok rate batch sense ∧ (rate = 0 ∨ batch = 0)

theorem execInit_fault (h : execInit s = .fault f) : f = .hostContract ∧ Uninit s ∧ BrokenHost s := by
  obtain ⟨hs, hk⟩ := requireUninit_fault h
  dsimp only at hk
  split at hk
  · cases hk
  · next rate batch sense answer =>
    split at hk
    · next hz =>
      cases hk
      exact ⟨rfl, hs, rate, batch, sense, answer, hz⟩
    · cases hk

theorem execInit_of_brokenHost (hs : Uninit s) (broken : BrokenHost s) : execInit s = .fault .hostContract := by
  obtain ⟨rate, batch, sense, answer, hz⟩ := broken
  simp only [execInit, requireUninit_of_uninit _ hs, answer, if_pos hz]

/-- The body of every other command answers a next state or a refusal. -/
theorem exec_ne_fault {i : Instr} (hi : i ≠ .init) : exec i s ≠ .fault f := by
  intro h
  cases i with
  | init => exact hi rfl
  | shutdown =>
    obtain ⟨v, -, hk⟩ := requireActive_fault h
    split at hk <;> cases hk
  | rateupd =>
    obtain ⟨v, -, hk⟩ := requireActive_fault h
    dsimp only at hk
    split at hk <;> cases hk
  | l2l avail =>
    obtain ⟨v, -, hk⟩ := requireActive_fault h
    split at hk <;> cases hk
  | lookup _ | panupd | frequpd | tick | mix | feedbk =>
    obtain ⟨v, -, ⟨⟩⟩ := requireActive_fault h

end Faults

/-- Settles O8: `INIT` faults exactly under a broken host, and no other command does. -/
theorem onlyInitUnderABrokenHostFaults : Obligations.OnlyInitUnderABrokenHostFaults := by
  intro i s f
  constructor
  · intro h
    by_cases hi : i = .init
    · subst hi
      obtain ⟨hf, hs, broken⟩ := execInit_fault h
      exact ⟨hf, rfl, hs, broken⟩
    · exact absurd h (exec_ne_fault hi)
  · rintro ⟨rfl, rfl, hs, broken⟩
    exact execInit_of_brokenHost hs broken

end Sys2Proof.Machine
end

section
/-! The family of 30_encoding.md: the command word's fields (R83), the decoder as the inverse of the encoder (R84, R85,
R87), and the words that are refused (R86). -/

namespace Sys2Proof.Machine

/-! ## Fields of an appended word (30_encoding.md R83) -/

section Fields
variable {m n : Nat}

/-- A word is `a` above `b` exactly when its fields are. -/
theorem append_eq_iff (a : BitVec m) (b : BitVec n) (x : BitVec (m + n)) :
    a ++ b = x ↔ x.extractLsb' n m = a ∧ x.extractLsb' 0 n = b := by
  constructor
  · rintro rfl
    exact ⟨BitVec.extractLsb'_append_eq_left, BitVec.extractLsb'_append_eq_right⟩
  · rintro ⟨rfl, rfl⟩
    exact BitVec.extractLsb'_append_extractLsb'

/-- A mask of the high field and the field's value there describe the words with that high field. -/
theorem exists_append_eq_iff_masked (a : BitVec m) (x : BitVec (m + n)) :
    (∃ b : BitVec n, a ++ b = x) ↔ x &&& (BitVec.allOnes m ++ 0#n) = a ++ 0#n := by
  constructor
  · rintro ⟨b, rfl⟩
    rw [BitVec.and_append, BitVec.and_allOnes, BitVec.and_zero]
  · intro masked
    rw [← BitVec.extractLsb'_append_extractLsb' (x := x), BitVec.and_append, BitVec.and_allOnes, BitVec.and_zero,
      BitVec.append_left_inj] at masked
    exact ⟨x.extractLsb' 0 n, (append_eq_iff a _ x).mpr ⟨masked, rfl⟩⟩

theorem toNat_append_eq_add (a : BitVec m) (b : BitVec n) : (a ++ b).toNat = a.toNat * 2 ^ n + b.toNat := by
  rw [BitVec.toNat_append, ← Nat.shiftLeft_add_eq_or_of_lt b.isLt, Nat.shiftLeft_eq]

end Fields

section Encoding
variable {w : Word} {i j : Instr}

/-- `op` as a number. -/
theorem wordOp_eq_ofNat (w : Word) : wordOp w = BitVec.ofNat 8 (w.toNat / 2 ^ 24) := by
  rw [← Nat.shiftRight_eq_div_pow]
  rfl

theorem wordOp_toNat (w : Word) : (wordOp w).toNat = w.toNat / 2 ^ 24 := by
  rw [wordOp_eq_ofNat, BitVec.toNat_ofNat]
  have := w.isLt
  omega

theorem wordArg_toNat (w : Word) : (wordArg w).toNat = w.toNat % 2 ^ 24 := rfl

/-! ## The encoder (30_encoding.md R84, R85) -/

/-- A word is a command's word exactly when both fields are the command's. -/
theorem encode_eq_iff : encode i = w ↔ wordOp w = opcode i ∧ wordArg w = argField i := append_eq_iff ..

/-- `LOOKUP`'s operand stands in `arg[7:0]` below zeros. -/
theorem eq_setWidth_iff (code : Byte) (arg : BitVec 24) :
    arg = code.setWidth 24 ↔ arg.extractLsb' 8 16 = 0 ∧ arg.extractLsb' 0 8 = code := by
  rw [← append_eq_iff (m := 16), eq_comm, BitVec.setWidth_eq_append (by decide)]
  rfl

theorem argField_l2l_toNat (arg : BitVec 24) : argField (.l2l arg.toNat) = arg := by
  rw [argField, BitVec.ofNat_toNat, BitVec.setWidth_eq]

theorem encode_lookup (code : Byte) : encode (.lookup code) = (0x030000 : BitVec 24) ++ code := by
  revert code
  decide

@[simp] theorem commandNumber_lookup (code : Byte) : commandNumber (.lookup code) = 0x03000000 + code.toNat := rfl

@[simp] theorem commandNumber_l2l (avail : Nat) : commandNumber (.l2l avail) = 0x08000000 + avail := rfl

theorem encode_toNat (wf : i.WellFormed) : (encode i).toNat = commandNumber i := by
  rw [encode, toNat_append_eq_add]
  cases i with
  | lookup code =>
    have fits : code.toNat < 2 ^ 24 := code.isLt.trans (by decide)
    rw [argField, BitVec.toNat_setWidth, Nat.mod_eq_of_lt fits, commandNumber_lookup]
    simp [opcode]
  | l2l avail =>
    rw [argField, BitVec.toNat_ofNat, Nat.mod_eq_of_lt wf, commandNumber_l2l]
    simp [opcode]
  | init | shutdown | panupd | frequpd | rateupd | tick | mix | feedbk => rfl

/-- The opcodes in use are `0x01 .. 0x0A` (R84). -/
theorem exists_opcode_iff (op : BitVec 8) : (∃ i, op = opcode i) ↔ 0 < op.toNat ∧ op.toNat < 0x0B := by
  constructor
  · rintro ⟨i, rfl⟩
    cases i <;> simp [opcode]
  · rintro ⟨low, high⟩
    generalize hn : op.toNat = n at low high
    have named {i : Instr} (h : n = (opcode i).toNat) : ∃ i, op = opcode i :=
      ⟨i, BitVec.eq_of_toNat_eq (hn.trans h)⟩
    interval_cases n
    · exact named (i := .init) rfl
    · exact named (i := .shutdown) rfl
    · exact named (i := .lookup 0) rfl
    · exact named (i := .panupd) rfl
    · exact named (i := .frequpd) rfl
    · exact named (i := .rateupd) rfl
    · exact named (i := .tick) rfl
    · exact named (i := .l2l 0) rfl
    · exact named (i := .mix) rfl
    · exact named (i := .feedbk) rfl

/-! ## The decoder, by the opcode (30_encoding.md R86, R87) -/

/-- What the decoder makes of a word with the opcode of the command: only the operand is left to read. -/
def decodeOperand (w : Word) : Instr → Except DecodeError Instr
  | .lookup _ => decodeLookup w
  | .l2l _ => decodeL2l w
  | i => withoutArg w i

theorem decode_of_opcode (h : wordOp w = opcode i) : decode w = decodeOperand w i := by
  cases i <;> simp [decode, h, opcode, decodeOperand]

theorem decode_of_reserved (h : ¬ ∃ i, wordOp w = opcode i) : decode w = .error (.reservedOpcode (wordOp w)) :=
  have ne (i : Instr) : wordOp w ≠ opcode i := fun hi => h ⟨i, hi⟩
  (if_neg (ne .init)).trans <| (if_neg (ne .shutdown)).trans <| (if_neg (ne (.lookup 0))).trans <|
    (if_neg (ne .panupd)).trans <| (if_neg (ne .frequpd)).trans <| (if_neg (ne .rateupd)).trans <|
    (if_neg (ne .tick)).trans <| (if_neg (ne (.l2l 0))).trans <| (if_neg (ne .mix)).trans <| if_neg (ne .feedbk)

theorem withoutArg_eq_ok_iff : withoutArg w j = .ok i ↔ wordArg w = 0 ∧ j = i := by
  unfold withoutArg
  split_ifs with h <;> simp only [h, Except.ok.injEq, true_and, false_and]

theorem decodeLookup_eq_ok_iff :
    decodeLookup w = .ok i ↔ ∃ code, wordArg w = argField (.lookup code) ∧ .lookup code = i := by
  simp only [argField, eq_setWidth_iff]
  unfold decodeLookup
  split_ifs with h <;> simp only [h, Except.ok.injEq, true_and, false_and, exists_eq_left', exists_false]

theorem decodeL2l_eq_ok_iff :
    decodeL2l w = .ok i ↔ ∃ avail < 2 ^ 24, wordArg w = argField (.l2l avail) ∧ .l2l avail = i := by
  constructor
  · rintro ⟨⟩
    exact ⟨_, (wordArg w).isLt, (argField_l2l_toNat _).symm, rfl⟩
  · rintro ⟨avail, fits, harg, rfl⟩
    rw [decodeL2l, harg, argField, BitVec.toNat_ofNat, Nat.mod_eq_of_lt fits]

/-- Decoding is the inverse of encoding on the well-formed commands. -/
theorem decode_eq_ok_iff : decode w = .ok i ↔ i.WellFormed ∧ encode i = w := by
  rw [encode_eq_iff]
  constructor
  · intro h
    by_cases known : ∃ j, wordOp w = opcode j
    · obtain ⟨j, hop⟩ := known
      rw [decode_of_opcode hop] at h
      cases j with
      | lookup _ =>
        obtain ⟨code, harg, rfl⟩ := decodeLookup_eq_ok_iff.mp h
        exact ⟨trivial, hop, harg⟩
      | l2l _ =>
        obtain ⟨avail, fits, harg, rfl⟩ := decodeL2l_eq_ok_iff.mp h
        exact ⟨fits, hop, harg⟩
      | init | shutdown | panupd | frequpd | rateupd | tick | mix | feedbk =>
        obtain ⟨harg, rfl⟩ := withoutArg_eq_ok_iff.mp h
        exact ⟨trivial, hop, harg⟩
    · rw [decode_of_reserved known] at h
      cases h
  · rintro ⟨wf, hop, harg⟩
    rw [decode_of_opcode hop]
    cases i with
    | lookup code => exact decodeLookup_eq_ok_iff.mpr ⟨code, harg, rfl⟩
    | l2l avail => exact decodeL2l_eq_ok_iff.mpr ⟨avail, wf, harg, rfl⟩
    | init | shutdown | panupd | frequpd | rateupd | tick | mix | feedbk =>
      exact withoutArg_eq_ok_iff.mpr ⟨harg, rfl⟩

/-- The numbers of the table, in place of the encoder. -/
theorem decode_eq_ok_iff_toNat : decode w = .ok i ↔ i.WellFormed ∧ w.toNat = commandNumber i := by
  rw [decode_eq_ok_iff]
  refine and_congr_right fun wf => ?_
  rw [← encode_toNat wf, BitVec.toNat_eq, eq_comm]

/-- An opcode in use leaves the operand as the one reason to refuse. -/
theorem decode_nonzeroArg_of_not_ok (known : ∃ i, wordOp w = opcode i) (notOk : ∀ i, decode w ≠ .ok i) :
    decode w = .error (.nonzeroArg (wordOp w)) := by
  obtain ⟨j, hop⟩ := known
  rw [decode_of_opcode hop] at notOk ⊢
  cases j with
  | lookup _ => exact if_neg fun zero => notOk _ (if_pos zero)
  | l2l _ => exact absurd rfl (notOk _)
  | init | shutdown | panupd | frequpd | rateupd | tick | mix | feedbk => exact if_neg fun zero => notOk _ (if_pos zero)

/-- A word whose operand has a bit where its opcode allows none is no command (R86). -/
theorem decode_ne_ok_of_operand (notL2l : w.toNat / 2 ^ 24 ≠ 8)
    (bits : if w.toNat / 2 ^ 24 = 3 then 256 ≤ w.toNat % 2 ^ 24 else w.toNat % 2 ^ 24 ≠ 0) (i : Instr) :
    decode w ≠ .ok i := by
  rw [Ne, decode_eq_ok_iff_toNat]
  rintro ⟨wf, number⟩
  rw [number] at notL2l bits
  cases i with
  | lookup code =>
    have := code.isLt
    rw [commandNumber_lookup] at bits
    split_ifs at bits <;> omega
  | l2l avail =>
    rw [commandNumber_l2l] at notL2l
    omega
  | init | shutdown | panupd | frequpd | rateupd | tick | mix | feedbk => exact absurd bits (by decide)

end Encoding

/-- A word that is no command is refused by the decoder's reason, in every state (R86). -/
theorem step_badWord {s : State} {w : Word} {rest : List Input} {e : DecodeError} (hs : s.inputs = .command w :: rest)
    (hd : decode w = .error e) : step s = .refused (.badWord e) := by
  simp only [step, takeInput, issueWord, hs, hd]

/-! ## The masks (30_encoding.md R87) -/

theorem decode_lookup_iff_masked (w : Word) :
    (∃ code, decode w = .ok (.lookup code)) ↔ w &&& 0xFFFFFF00 = 0x03000000 := by
  have word (code : Byte) : decode w = .ok (.lookup code) ↔ (0x030000 : BitVec 24) ++ code = w := by
    rw [decode_eq_ok_iff, encode_lookup]
    exact and_iff_right trivial
  simp only [word]
  exact exists_append_eq_iff_masked (n := 8) (0x030000 : BitVec 24) w

theorem decode_l2l_iff_masked (w : Word) :
    (∃ avail, decode w = .ok (.l2l avail)) ↔ w &&& 0xFF000000 = 0x08000000 := by
  refine Iff.trans ⟨?_, ?_⟩ (exists_append_eq_iff_masked (n := 24) (0x08 : BitVec 8) w)
  · rintro ⟨avail, h⟩
    exact ⟨_, (decode_eq_ok_iff.mp h).2⟩
  · rintro ⟨arg, h⟩
    refine ⟨arg.toNat, decode_eq_ok_iff.mpr ⟨arg.isLt, ?_⟩⟩
    rw [encode, argField_l2l_toNat]
    exact h

/-! ## The obligations of the family -/

/-- Settles O1, by the decoder's inverse. -/
theorem decodeInvertsEncode : Obligations.DecodeInvertsEncode := fun _ wf => decode_eq_ok_iff.mpr ⟨wf, rfl⟩

/-- Settles O2, by the decoder's inverse. -/
theorem encodeInvertsDecode : Obligations.EncodeInvertsDecode := fun _ _ => decode_eq_ok_iff.mp

/-- Settles O3: the opcode is in use or reserved, and in use it leaves the operand to refuse. -/
theorem commandWordsAreExactlyTheTable : Obligations.CommandWordsAreExactlyTheTable := by
  refine ⟨fun _ _ => decode_eq_ok_iff_toNat, fun w reserved => ?_, fun w low high notL2l bits => ?_,
    fun _ _ _ _ => step_badWord, decode_lookup_iff_masked, decode_l2l_iff_masked⟩
  · rw [← wordOp_eq_ofNat]
    refine decode_of_reserved fun known => ?_
    rw [exists_opcode_iff, wordOp_toNat] at known
    omega
  · rw [← wordOp_eq_ofNat]
    refine decode_nonzeroArg_of_not_ok ?_ (decode_ne_ok_of_operand notL2l bits)
    rw [exists_opcode_iff, wordOp_toNat]
    exact ⟨Nat.pos_of_ne_zero low, high⟩

/-- Settles O4, by running the decoder on each word. -/
theorem sampleWordsDecode : Obligations.SampleWordsDecode := by
  unfold Obligations.SampleWordsDecode
  decide

end Sys2Proof.Machine
end

section
/-! The family of 40_lookup.md: `LogLin` by the fields of the code (R101), its symmetry and strict rise (R103), and
`LOOKUP` (R104). -/

namespace Sys2Proof.Machine

/-! ## The fields of a sample code (30_encoding.md R81) -/

theorem chordOf_eq (code : Byte) : chordOf code = code.toNat / 32 := by
  have := code.isLt
  rw [chordOf, BitVec.extractLsb'_toNat, Nat.shiftRight_eq_div_pow]
  omega

theorem pointOf_eq (code : Byte) : pointOf code = code.toNat / 2 % 16 := by
  rw [pointOf, BitVec.extractLsb'_toNat, Nat.shiftRight_eq_div_pow]

theorem signOf_eq (code : Byte) : signOf code = decide (code.toNat % 2 = 1) := by
  rw [signOf, BitVec.getLsbD, Nat.testBit_zero]

/-- A field above bit 0 is the same whether bit 0 is set or cleared. -/
theorem extractLsb'_or_one_eq_and_not_one (code : Byte) (start len : Nat) (above : 0 < start) (fits : start + len ≤ 8) :
    (code ||| 1).extractLsb' start len = (code &&& ~~~1).extractLsb' start len := by
  ext i hi
  have high : start ≠ 0 := above.ne'
  have inside : start + i < 8 := by omega
  simp [high, inside, -BitVec.reduceNot]

theorem chordOf_or_one (code : Byte) : chordOf (code ||| 1) = chordOf (code &&& ~~~1) :=
  congrArg BitVec.toNat (extractLsb'_or_one_eq_and_not_one code 5 3 (by decide) (by decide))

theorem pointOf_or_one (code : Byte) : pointOf (code ||| 1) = pointOf (code &&& ~~~1) :=
  congrArg BitVec.toNat (extractLsb'_or_one_eq_and_not_one code 1 4 (by decide) (by decide))

theorem signOf_or_one (code : Byte) : signOf (code ||| 1) = true := by simp [signOf]

theorem signOf_and_not_one (code : Byte) : signOf (code &&& ~~~1) = false := by simp [signOf]

/-! ## The magnitude (R101, R103) -/

theorem logMagnitude_eq (chord point : Nat) :
    logMagnitude chord point = (2 ^ chord - 1) * SCALE + (2 ^ chord * SCALE) / 16 * point := rfl

/-- Sixteen steps of a chord are no more than the distance to the next chord's base, and a step is positive. -/
theorem chordStep_pos_and_sixteen_le (chord : Nat) :
    0 < (2 ^ chord * SCALE) / 16 ∧ (2 ^ chord * SCALE) / 16 * 16 ≤ 2 ^ chord * SCALE := by
  have pos : (0 : Int) < 2 ^ chord := by positivity
  have scale : SCALE = 132 := by decide
  rw [scale]
  omega

theorem logMagnitude_lt_of_point_lt (chord : Nat) {point point' : Nat} (h : point < point') :
    logMagnitude chord point < logMagnitude chord point' := by
  obtain ⟨pos, -⟩ := chordStep_pos_and_sixteen_le chord
  have steps : (2 ^ chord * SCALE) / 16 * (point : Int) < (2 ^ chord * SCALE) / 16 * point' :=
    mul_lt_mul_of_pos_left (Int.ofNat_lt.mpr h) pos
  exact Int.add_lt_add_left steps _

/-- A point of a chord lies below the base of every later chord. -/
theorem logMagnitude_lt_of_chord_lt {chord chord' point : Nat} (point' : Nat) (h : chord < chord') (fits : point < 16) :
    logMagnitude chord point < logMagnitude chord' point' := by
  obtain ⟨-, sixteen⟩ := chordStep_pos_and_sixteen_le chord
  have scale : 0 ≤ SCALE := by decide
  have power : (2 : Int) ^ (chord + 1) ≤ 2 ^ chord' := pow_le_pow_right₀ (by decide) h
  calc logMagnitude chord point
      < logMagnitude chord 16 := logMagnitude_lt_of_point_lt chord fits
    _ ≤ (2 ^ chord - 1) * SCALE + 2 ^ chord * SCALE := Int.add_le_add_left sixteen _
    _ = (2 ^ (chord + 1) - 1) * SCALE := by ring
    _ ≤ (2 ^ chord' - 1) * SCALE := by gcongr
    _ ≤ logMagnitude chord' point' := le_add_of_nonneg_right (by positivity)

/-! ## The table's entries -/

theorem logLin_eq (code : Byte) :
    logLin code =
      if code.toNat % 2 = 1 then -logMagnitude (code.toNat / 32) (code.toNat / 2 % 16)
      else logMagnitude (code.toNat / 32) (code.toNat / 2 % 16) := by
  simp only [logLin, chordOf_eq, pointOf_eq, signOf_eq, decide_eq_true_eq]

theorem logLin_of_even {code : Byte} (even : code.toNat % 2 = 0) :
    logLin code = logMagnitude (code.toNat / 32) (code.toNat / 2 % 16) := by
  rw [logLin_eq, if_neg (by omega)]

theorem logLin_or_one (code : Byte) : logLin (code ||| 1) = -logLin (code &&& ~~~1) := by
  simp only [logLin, chordOf_or_one, pointOf_or_one, signOf_or_one, signOf_and_not_one, Bool.false_eq_true, if_true,
    if_false]

/-- Of two even codes the greater has the later chord, or the same chord and the greater point. -/
theorem logLin_lt_of_even {c d : Byte} (hc : c.toNat % 2 = 0) (hd : d.toNat % 2 = 0) (h : c.toNat < d.toNat) :
    logLin c < logLin d := by
  rw [logLin_of_even hc, logLin_of_even hd]
  rcases (Nat.div_le_div_right h.le : c.toNat / 32 ≤ d.toNat / 32).lt_or_eq with later | same
  · exact logMagnitude_lt_of_chord_lt _ later (Nat.mod_lt _ (by decide))
  · rw [same]
    exact logMagnitude_lt_of_point_lt _ (by omega)

/-! ## The obligations of the family -/

/-- Settles O16: the fields of the code are its quotients, and the sign is a factor. -/
theorem logLinFormula : Obligations.LogLinFormula := by
  intro code
  rw [logLin_eq, logMagnitude_eq, SCALE]
  split_ifs
  · rw [neg_one_mul]
  · rw [one_mul]

/-- Settles O17: bit 0 moves the sign alone, and the magnitude rises with the chord and within it. -/
theorem logTableSymmetricAndRising : Obligations.LogTableSymmetricAndRising :=
  ⟨logLin_or_one, fun _ _ => logLin_lt_of_even, by decide, by decide⟩

/-- Settles O18: the command reads the state's table, which the invariant says is the one built. -/
theorem lookupReadsTheTable : Obligations.LookupReadsTheTable := by
  refine ⟨fun s v code active => execLookup_active code active, fun s v code active inv => ?_,
    fun s code uninit => requireActive_of_uninit _ uninit, by decide, by decide, by decide, fun code => ?_⟩
  · rw [← inv.table_built code]
    exact execLookup_active code active
  · have fits : 0x03000000 + code.toNat < 2 ^ 32 := by omega
    rw [decode_eq_ok_iff_toNat, BitVec.toNat_ofNat, Nat.mod_eq_of_lt fits]
    exact ⟨trivial, rfl⟩

end Sys2Proof.Machine
end

section
/-! The family of 41_pan.md: the gains of the pan codes (R112), mirroring (R113), the muted channels (R114), and `PANUPD`
(R111). -/

namespace Sys2Proof.Machine

/-! ## The gains of the pan codes (41_pan.md R112) -/

/-- Outside `1 .. 7` no row of the table is the code's. -/
theorem panGain_of_muted {m : Int} (h : m ≤ 0 ∨ 8 ≤ m) : panGain m = ⟨0, 0⟩ := by
  have noRow (k : Int) (low : 1 ≤ k) (high : k ≤ 7) : m ≠ k := by omega
  simp [panGain, panPercent, noRow, percentGain]

/-- The two percentages of a legal code make up the whole; the two integer divisions lose at most one together. -/
theorem panGain_sum {m : Int} (low : 1 ≤ m) (high : m ≤ 7) :
    65535 ≤ (panGain m).g0 + (panGain m).g1 ∧ (panGain m).g0 + (panGain m).g1 ≤ 65536 := by
  interval_cases m <;> decide

/-! ## Mirroring (41_pan.md R113) -/

/-- The table is symmetric about the middle code 4, and `8 - m` is muted when `m` is. -/
theorem panGain_mirror (m : Int) : panGain (8 - m) = ⟨(panGain m).g1, (panGain m).g0⟩ := by
  by_cases legal : 1 ≤ m ∧ m ≤ 7
  · obtain ⟨low, high⟩ := legal
    interval_cases m <;> rfl
  · have muted : m ≤ 0 ∨ 8 ≤ m := by omega
    have mirrored : 8 - m ≤ 0 ∨ 8 ≤ 8 - m := by omega
    rw [panGain_of_muted muted, panGain_of_muted mirrored]

theorem effectiveCode_leftFirst (r : BitVec 4) : effectiveCode .leftFirst r = r.toNat := rfl

theorem effectiveCode_rightFirst (r : BitVec 4) : effectiveCode .rightFirst r = 8 - r.toNat := rfl

theorem effectiveCode_eq_ite (sense : StereoSense) (r : BitVec 4) :
    effectiveCode sense r = if sense = .rightFirst then 8 - (r.toNat : Int) else (r.toNat : Int) := by
  cases sense <;> rfl

/-! ## Muted channels (41_pan.md R114) -/

/-- The mirror of an invalid register value is no legal code either. -/
theorem effectiveCode_muted {r : BitVec 4} (sense : StereoSense) (h : r.toNat = 0 ∨ 8 ≤ r.toNat) :
    effectiveCode sense r ≤ 0 ∨ 8 ≤ effectiveCode sense r := by
  cases sense with
  | leftFirst =>
    rw [effectiveCode_leftFirst]
    omega
  | rightFirst =>
    rw [effectiveCode_rightFirst]
    omega

theorem panSample_mute (x : Int) : panSample ⟨0, 0⟩ x = ⟨0, 0⟩ := by simp [panSample, shr]

/-! ## `PANUPD` (41_pan.md R111) -/

/-- A second `PANUPD` reads the registers and the sense that the first read, since the first wrote neither. -/
theorem execPanupd_idempotent {s t : State} (h : execPanupd s = .next t) : execPanupd t = .next t := by
  obtain ⟨v, ⟨running, -⟩, rfl⟩ := execPanupd_next h
  exact execPanupd_active (v := v.setPan (panMatrixOf v.stereoSense s.ports.panReg)) ⟨running, rfl⟩

/-! ## The obligations of the family -/

/-- Settles O19: the rows of the table by computing them, the other integers and the sums by the lemmas above. -/
theorem panGainTable : Obligations.PanGainTable :=
  ⟨rfl, rfl, rfl, rfl, rfl, rfl, rfl, fun _ => panGain_of_muted, fun _ => panGain_sum, by decide⟩

/-- Settles O20: the two effective codes of a register are mirror images. -/
theorem mirroringSwapsTheGains : Obligations.MirroringSwapsTheGains :=
  ⟨panGain_mirror, fun r => panGain_mirror r.toNat⟩

/-- Settles O21: an invalid register value stays outside the legal codes in both senses, and a fetch decodes one pair a
byte before it looks at a gain. -/
theorem invalidPanCodesMute : Obligations.InvalidPanCodesMute :=
  ⟨fun _ sense h => panGain_of_muted (effectiveCode_muted sense h), panSample_mute, decodeUnits_length⟩

/-- Settles O22: the matrix is the one the pan registers stand for, entry by entry. -/
theorem panupdFollowsTheRegisters : Obligations.PanupdFollowsTheRegisters := by
  refine ⟨fun s v active => ⟨panMatrixOf v.stereoSense s.ports.panReg, execPanupd_active active, fun ch => ?_⟩,
    fun s t => execPanupd_idempotent, fun s => requireActive_of_uninit _, by decide⟩
  rw [← effectiveCode_eq_ite]
  exact panMatrixOf_get _ _ ch ch.isLt

end Sys2Proof.Machine
end

section
/-! The family of 42_log2lin.md: the pan product and its shift (R123), the pairs of a fetch one by one (R124), and `L2L`
(R121, R122). -/

namespace Sys2Proof.Machine

/-! ## The pan product and its shift (42_log2lin.md R123) -/

section PanProduct
variable {g : Nat} {x : Int}

theorem abs_gain_mul_le (hg : g ≤ 65536) (hx : SampleRange x) : |(g : Int) * x| ≤ 2136735744 := by
  have gain : (g : Int) ≤ 65536 := Int.ofNat_le.mpr hg
  calc |(g : Int) * x| = g * |x| := by rw [abs_mul, Nat.abs_cast]
    _ ≤ 65536 * 32604 := mul_le_mul gain (abs_le.mpr hx) (abs_nonneg x) (by decide)

/-- A gain of at most one does not raise a sample that is not negative. -/
theorem shr_gain_of_nonneg (hg : g ≤ 65536) (hx : 0 ≤ x) : 0 ≤ shr (g * x) 16 ∧ shr (g * x) 16 ≤ x := by
  have nonneg : 0 ≤ (g : Int) * x := by positivity
  have below : (g : Int) * x ≤ 65536 * x := mul_le_mul_of_nonneg_right (Int.ofNat_le.mpr hg) hx
  unfold shr
  omega

/-- A gain of at most one does not lower a negative sample, rounding toward minus infinity included. -/
theorem shr_gain_of_neg (hg : g ≤ 65536) (hx : x < 0) : x ≤ shr (g * x) 16 ∧ shr (g * x) 16 ≤ 0 := by
  have nonpos : (g : Int) * x ≤ 0 := mul_nonpos_of_nonneg_of_nonpos (Int.natCast_nonneg g) hx.le
  have above : 65536 * x ≤ (g : Int) * x := mul_le_mul_of_nonpos_right (Int.ofNat_le.mpr hg) hx.le
  unfold shr
  omega

/-- A negative product rounds to -1 or less. -/
theorem shr_gain_le_neg_one (hg : g ≠ 0) (hx : x < 0) : shr (g * x) 16 ≤ -1 := by
  have neg : (g : Int) * x < 0 := mul_neg_of_pos_of_neg (Int.natCast_pos.mpr (Nat.pos_of_ne_zero hg)) hx
  unfold shr
  omega

end PanProduct

theorem panSample_zero (g : Gain) : panSample g 0 = ⟨0, 0⟩ := by simp [panSample, shr]

/-! ## The pairs of a fetch (42_log2lin.md R121, R124) -/

section Pairs
variable {v v' : SoundState} {j : Nat}

theorem getElem?_eq_gainAt (m : Vector Gain 8) (j : Nat) : m[j % 8]? = some (gainAt m j) :=
  Vector.getElem?_eq_getElem _

/-- The address of byte `j` wraps at the end of the address space. -/
theorem decodePair_eq {g : Gain} (hg : v.panMatrix[j % 8]? = some g) (mem : Memory) (cur : Addr) :
    decodePair mem cur v j = panSample g (tableAt v.logTable (mem.read (BitVec.ofNat 32 (cur.toNat + j)))) := by
  rw [getElem?_eq_gainAt, Option.some.injEq] at hg
  rw [decodePair, hg, BitVec.ofNat_add, BitVec.ofNat_toNat, BitVec.setWidth_eq]

/-- Pair `j` is a function of its byte, of its channel's gains and of the table's entry for the byte. -/
theorem decodePair_congr {mem mem' : Memory} {cur cur' : Addr} {b : Byte} (hb : mem.read (cur + BitVec.ofNat 32 j) = b)
    (hb' : mem'.read (cur' + BitVec.ofNat 32 j) = b) (gains : v.panMatrix[j % 8]? = v'.panMatrix[j % 8]?)
    (entry : tableAt v.logTable b = tableAt v'.logTable b) : decodePair mem cur v j = decodePair mem' cur' v' j := by
  rw [getElem?_eq_gainAt, getElem?_eq_gainAt, Option.some.injEq] at gains
  rw [decodePair, decodePair, hb, hb', gains, entry]

end Pairs

/-! ## `L2L` (42_log2lin.md R121, R122) -/

section L2l
variable {s : State} {v : SoundState}

theorem execL2l_overrun {avail : Nat} (h : Active s v) (overrun : s.params.ringCap < v.ringCount + UNIT_BYTES * avail) :
    execL2l avail s = .refused .ringOverrun := by
  unfold execL2l
  rw [requireActive_of_active _ h, if_neg (Nat.not_le.mpr overrun)]

theorem appendUnits_zero (mem : Memory) (cur : Addr) (v : SoundState) : appendUnits mem cur v 0 = v := by
  simp [appendUnits, decodeUnits, SoundState.setRing]

theorem setSound_of_active (h : Active s v) : s.setSound (some v) = s := by
  obtain ⟨-, sound⟩ := h
  rw [← sound]
  rfl

end L2l

/-- The word that the tables number is the command's. -/
theorem decode_commandNumber {i : Instr} (wf : i.WellFormed) : decode (BitVec.ofNat 32 (commandNumber i)) = .ok i := by
  rw [decode_eq_ok_iff, ← encode_toNat wf, BitVec.ofNat_toNat, BitVec.setWidth_eq]
  exact ⟨wf, rfl⟩

/-! ## The obligations of the family -/

/-- Settles O23: the appended pairs are those of the fetch, each known by its byte and its channel's gains. -/
theorem l2lAppendsDecodedUnits : Obligations.L2lAppendsDecodedUnits := by
  refine ⟨fun s v avail active fits => ?_, fun s v avail => execL2l_overrun, fun s avail => requireActive_of_uninit _,
    fun avail wf => decode_commandNumber (i := .l2l avail) wf⟩
  refine ⟨decodeUnits s.mem s.ports.dmaCur v avail, execL2l_active avail active fits, decodeUnits_length .., ?_⟩
  rintro j b g inside rfl hg
  rw [decodeUnits_get?, if_pos inside, decodePair_eq hg]
  rfl

/-- Settles O24: with the ring within its capacity the empty fetch is not refused, and it appends no pair. -/
theorem l2lOfNoUnitsChangesNothing : Obligations.L2lOfNoUnitsChangesNothing := by
  intro s v active inv
  calc execL2l 0 s = .next (s.setSound (appendUnits s.mem s.ports.dmaCur v 0)) := execL2l_active 0 active inv.ring_fits
    _ = .next s := by rw [appendUnits_zero, setSound_of_active active]

/-- Settles O25: the product lies between zero and `65536 * v`, and the shift keeps it between zero and `v`. -/
theorem panProductBounds : Obligations.PanProductBounds := by
  refine ⟨fun g v hg hv => ⟨abs_gain_mul_le hg hv, shr_gain_range hg hv, fun nonneg => ?_, fun neg _ => ?_,
    fun neg nonzero _ => ?_⟩, by decide, by decide⟩
  · obtain ⟨low, high⟩ := shr_gain_of_nonneg hg nonneg
    exact abs_le_abs_of_nonneg low high
  · exact shr_gain_of_neg hg neg
  · obtain ⟨low, -⟩ := shr_gain_of_neg hg neg
    exact ⟨low, shr_gain_le_neg_one nonzero neg⟩

/-- Settles O26: a pair reads its byte, its gains and its entry alone, and a zero factor gives a zero pair. -/
theorem lanesAreIndependent : Obligations.LanesAreIndependent := by
  obtain ⟨-, -, zero, one⟩ := logTableSymmetricAndRising
  refine ⟨fun _ _ _ _ _ _ _ _ => decodePair_congr, decodeUnits_get?, panSample_mute, fun g => ?_⟩
  rw [zero, one]
  exact ⟨panSample_zero g, panSample_zero g⟩

end Sys2Proof.Machine
end

section
/-! The family of 43_resampler.md: the weights of an interval (R134, R144), one host pair and its range (R136 to R142),
constant streams (R145), the drain (R140, R141, R143), the flush (R131, R132), and what the host is handed (R142). -/

namespace Sys2Proof.Machine

/-! ## The weights of an interval (43_resampler.md R134) -/

section Weights
variable {tq sq : Nat}

theorem weight_nonneg (i tq e : Nat) : 0 ≤ weight i tq e := le_max_left ..

theorem weight_of_last_lt {i : Nat} (htq : tq < 512) (past : (tq + sq - 1) / 512 + 7 < i) :
    weight i tq (tq + sq) = 0 := by
  rw [weight_eq]
  omega

theorem weight_pos {i : Nat} (htq : tq < 512) (hsq : 1 ≤ sq) (needed : i ≤ (tq + sq - 1) / 512 + 7) :
    0 < weight i tq (tq + sq) := by
  rw [weight_eq]
  omega

theorem weight_le (i tq sq : Nat) : weight i tq (tq + sq) ≤ min (sq : Int) (8 * 512) := by
  rw [weight_eq]
  omega

/-- Where the window of pair `i` begins, moved into the interval `[tq, e]`. -/
def startInside (tq e i : Nat) : Int := max (tq : Int) (min (e : Int) (((i : Int) - 7) * 512))

/-- The window of pair `i` ends where that of pair `i + 8` begins. -/
theorem weight_eq_startInside_sub (i tq sq : Nat) :
    weight i tq (tq + sq) = startInside tq (tq + sq) (i + 8) - startInside tq (tq + sq) i := by
  rw [weight_eq, startInside, startInside]
  omega

theorem startInside_of_lt_eight {i : Nat} (hi : i < 8) (tq sq : Nat) : startInside tq (tq + sq) i = tq := by
  rw [startInside]
  omega

theorem startInside_of_last_lt {i : Nat} (past : (tq + sq - 1) / 512 + 7 < i) :
    startInside tq (tq + sq) i = tq + sq := by
  rw [startInside]
  omega

/-- A sum of differences at distance `m` keeps the last `m` terms and the first `m`. -/
theorem sum_range_add_sub (f : Nat → Int) (n m : Nat) :
    ∑ i ∈ Finset.range n, (f (i + m) - f i) = ∑ j ∈ Finset.range m, f (n + j) - ∑ j ∈ Finset.range m, f j := by
  have split : ∑ i ∈ Finset.range n, f i + ∑ j ∈ Finset.range m, f (n + j) =
      ∑ j ∈ Finset.range m, f j + ∑ i ∈ Finset.range n, f (m + i) := by
    rw [← Finset.sum_range_add, ← Finset.sum_range_add, add_comm n m]
  simp only [Finset.sum_sub_distrib, add_comm _ m]
  linarith

/-- Every instant of the interval is covered by eight windows. -/
theorem sum_weight (tq sq : Nat) :
    ∑ i ∈ Finset.range ((tq + sq - 1) / 512 + 7 + 1), weight i tq (tq + sq) = 8 * sq := by
  have ends : ∀ j ∈ Finset.range 8, startInside tq (tq + sq) ((tq + sq - 1) / 512 + 7 + 1 + j) = tq + sq :=
    fun j _ => startInside_of_last_lt (by omega)
  have begins : ∀ j ∈ Finset.range 8, startInside tq (tq + sq) j = tq :=
    fun j hj => startInside_of_lt_eight (Finset.mem_range.mp hj) tq sq
  simp only [weight_eq_startInside_sub]
  rw [sum_range_add_sub, Finset.sum_congr rfl ends, Finset.sum_congr rfl begins, ← Finset.sum_sub_distrib]
  simp

end Weights

/-! ## The area as a sum (43_resampler.md R136, R138) -/

section Area
variable {sq tq : Nat} {P : Nat → Int}

theorem sum_Ico_head (f : Nat → Int) (i n : Nat) :
    ∑ k ∈ Finset.Ico i (i + (n + 1)), f k = f i + ∑ k ∈ Finset.Ico (i + 1) (i + 1 + n), f k := by
  rw [Finset.sum_eq_sum_Ico_succ_bot (Nat.lt_add_of_pos_right n.succ_pos), Nat.add_right_comm i 1 n,
    Nat.add_assoc i n 1]

/-- The weighted sum of the samples `P i .. P (i + n - 1)`. -/
theorem weightedSum_map_range' (P : Nat → Int) (tq e i n : Nat) :
    weightedSum tq e i ((List.range' i n).map P) = ∑ k ∈ Finset.Ico i (i + n), weight k tq e * P k := by
  induction n generalizing i with
  | zero => simp [weightedSum]
  | succ n ih =>
    rw [List.range'_succ, List.map_cons, weightedSum, ih, sum_Ico_head]

/-- The walk over the samples `P i .. P (i + n - 1)`: the weighted sum of the partly overlapped ones, the sum of
the fully overlapped ones. -/
theorem largeWalk_map_range' (P : Nat → Int) (tq e i n : Nat) (a b : Int) :
    largeWalk tq e i ((List.range' i n).map P) (a, b) =
      (a + ∑ k ∈ Finset.Ico i (i + n) with weight k tq e ≠ 4096, weight k tq e * P k,
        b + ∑ k ∈ Finset.Ico i (i + n) with weight k tq e = 4096, P k) := by
  simp only [Finset.sum_filter]
  induction n generalizing i a b with
  | zero => simp [largeWalk]
  | succ n ih =>
    rw [List.range'_succ, List.map_cons, largeWalk_cons, ih, ih, sum_Ico_head, sum_Ico_head]
    split <;> simp [*, add_assoc]

theorem area_map_range (sq tq : Nat) (P : Nat → Int) :
    area sq tq (tq + sq) ((List.range ((tq + sq - 1) / 512 + 7 + 1)).map P) = areaSum sq tq P := by
  rw [area_eq, areaSum, List.range_eq_range', Finset.range_eq_Ico]
  by_cases small : sq ≤ 4096
  · rw [if_neg (by omega), if_pos (by omega), smallArea, weightedSum_map_range', zero_add]
    rfl
  · rw [if_pos (by omega), if_neg (by omega), largeArea, largeWalk_map_range']
    norm_num [shr]

/-- One host pair is made of the areas of its components (43_resampler.md R140, R142). -/
theorem mixOne_eq_areaSum {scale : Nat} {unread : List Pair} (enough : (tq + sq - 1) / 512 + 7 < unread.length) :
    mixOne sq scale tq unread =
      ⟨areaSum sq tq (fun i => (unread.getD i ⟨0, 0⟩).s0) * scale / 2 ^ 19,
        areaSum sq tq (fun i => (unread.getD i ⟨0, 0⟩).s1) * scale / 2 ^ 19⟩ := by
  have window : unread.take ((tq + sq - 1) / 512 + 7 + 1) =
      (List.range ((tq + sq - 1) / 512 + 7 + 1)).map fun i => unread.getD i ⟨0, 0⟩ := by
    refine List.ext_getElem (by simpa using enough) fun i hi _ => ?_
    have : i < unread.length := by simp at hi; omega
    simp [this]
  simp only [mixOne, lastPair_eq, window, List.map_map, ← area_map_range]
  rfl

/-- `A` of 43_resampler.md R136, over the samples `P 0 .. P last` of one interval. -/
def weightedArea (sq tq : Nat) (P : Nat → Int) : Int :=
  ∑ i ∈ Finset.range ((tq + sq - 1) / 512 + 7 + 1), weight i tq (tq + sq) * P i

/-- `X` from `A`: the two branches of 43_resampler.md R136 and R138 differ in the place of the rounding alone. -/
def roundedArea (sq : Nat) (A : Int) : Int := if sq ≤ 4096 then A / 512 else 8 * (A / 4096)

theorem areaSum_eq_roundedArea (sq tq : Nat) (P : Nat → Int) :
    areaSum sq tq P = roundedArea sq (weightedArea sq tq P) := by
  unfold areaSum roundedArea
  have full : (8 * 512 : Int) = 4096 := by norm_num
  simp only [full]
  split_ifs
  · rfl
  · have parts : weightedArea sq tq P =
        ∑ i ∈ Finset.range ((tq + sq - 1) / 512 + 7 + 1) with weight i tq (tq + sq) ≠ 4096,
          weight i tq (tq + sq) * P i +
        (∑ i ∈ Finset.range ((tq + sq - 1) / 512 + 7 + 1) with weight i tq (tq + sq) = 4096, P i) * 4096 := by
      rw [weightedArea, ← Finset.sum_filter_not_add_sum_filter _ (fun i => weight i tq (tq + sq) = 4096),
        Finset.sum_mul]
      refine congrArg _ (Finset.sum_congr rfl fun i hi => ?_)
      rw [(Finset.mem_filter.mp hi).2, mul_comm]
    rw [parts, Int.add_mul_ediv_right _ _ (by norm_num), add_comm]
    rfl

/-- One component of a host pair, from `A` (43_resampler.md R142). -/
def hostSample (sq scale : Nat) (A : Int) : Int := roundedArea sq A * scale / 2 ^ 19

theorem mixOne_eq_hostSample {scale : Nat} {unread : List Pair} (enough : (tq + sq - 1) / 512 + 7 < unread.length) :
    mixOne sq scale tq unread =
      ⟨hostSample sq scale (weightedArea sq tq fun i => (unread.getD i ⟨0, 0⟩).s0),
        hostSample sq scale (weightedArea sq tq fun i => (unread.getD i ⟨0, 0⟩).s1)⟩ := by
  rw [mixOne_eq_areaSum enough, areaSum_eq_roundedArea, areaSum_eq_roundedArea]
  rfl

theorem roundedArea_mono (sq : Nat) {A B : Int} (h : A ≤ B) : roundedArea sq A ≤ roundedArea sq B := by
  unfold roundedArea
  split_ifs <;> omega

theorem hostSample_mono (sq scale : Nat) {A B : Int} (h : A ≤ B) : hostSample sq scale A ≤ hostSample sq scale B :=
  Int.ediv_le_ediv (by norm_num) (mul_le_mul_of_nonneg_right (roundedArea_mono sq h) (Int.natCast_nonneg scale))

theorem weightedArea_const (sq tq : Nat) (v : Int) : weightedArea sq tq (fun _ => v) = 8 * sq * v := by
  rw [weightedArea, ← Finset.sum_mul, sum_weight]

theorem weightedArea_mono {Q : Nat → Int} (h : ∀ i ≤ (tq + sq - 1) / 512 + 7, P i ≤ Q i) :
    weightedArea sq tq P ≤ weightedArea sq tq Q :=
  Finset.sum_le_sum fun i hi =>
    mul_le_mul_of_nonneg_left (h i (Nat.lt_succ_iff.mp (Finset.mem_range.mp hi))) (weight_nonneg ..)

end Area

/-! ## A constant ring (43_resampler.md R145) and the range of a host sample (R142) -/

section Constant
variable {sq : Nat} {v : Int}

/-- What the rounding of 43_resampler.md R136 or R138 cuts off the area of a constant `v`, in parts of 64. -/
def cutOff (sq : Nat) (v : Int) : Int := if sq ≤ 4096 then sq * v % 64 else sq * v % 512

theorem roundedArea_const (sq : Nat) (v : Int) : 64 * roundedArea sq (8 * sq * v) = sq * v - cutOff sq v := by
  rw [roundedArea, cutOff, mul_assoc]
  split_ifs <;> omega

theorem cutOff_nonneg (sq : Nat) (v : Int) : 0 ≤ cutOff sq v := by
  rw [cutOff]
  split_ifs <;> omega

theorem cutOff_of_dvd (h : 512 ∣ (sq : Int) * v) : cutOff sq v = 0 := by
  rw [cutOff]
  split_ifs <;> omega

/-- What a constant ring loses to the rounding of its area, in parts of `2 ^ 25`. -/
def areaLoss (sq : Nat) (v : Int) : Int := cutOff sq v * (2 ^ 25 / sq : Nat)

theorem areaLoss_nonneg (sq : Nat) (v : Int) : 0 ≤ areaLoss sq v :=
  mul_nonneg (cutOff_nonneg sq v) (Int.natCast_nonneg _)

theorem areaLoss_of_dvd (h : 512 ∣ (sq : Int) * v) : areaLoss sq v = 0 := by
  rw [areaLoss, cutOff_of_dvd h, zero_mul]

/-- In the small branch less than 64 parts are cut off, in the large one less than 512 of a smaller scale. -/
theorem areaLoss_lt {least : Nat} (pos : 0 < least) (small : least ≤ 64) (h : least ≤ sq) (v : Int) :
    areaLoss sq v < 64 * (2 ^ 25 / least : Nat) := by
  by_cases branch : sq ≤ 4096
  · have cut : cutOff sq v ≤ 63 := by rw [cutOff, if_pos branch]; omega
    have scale : 2 ^ 25 / sq ≤ 2 ^ 25 / least := Nat.div_le_div_left h pos
    have scale_pos : 0 < 2 ^ 25 / least := Nat.div_pos (by omega) pos
    have : areaLoss sq v ≤ 63 * (2 ^ 25 / least : Nat) :=
      mul_le_mul cut (Int.ofNat_le.mpr scale) (Int.natCast_nonneg _) (by norm_num)
    omega
  · have cut : cutOff sq v ≤ 511 := by rw [cutOff, if_neg branch]; omega
    have scale : 2 ^ 25 / sq ≤ 2 ^ 25 / 4097 := Nat.div_le_div_left (by omega) (by norm_num)
    have scale_least : 2 ^ 25 / 64 ≤ 2 ^ 25 / least := Nat.div_le_div_left small pos
    have : areaLoss sq v ≤ 511 * (2 ^ 25 / 4097 : Nat) :=
      mul_le_mul cut (Int.ofNat_le.mpr scale) (Int.natCast_nonneg _) (by norm_num)
    omega

/-- The error of a constant ring: what the reciprocal falls short of, and what the rounding of the area loses. -/
theorem hostSample_const (sq : Nat) (v : Int) :
    hostSample sq (2 ^ 25 / sq) (8 * sq * v) = v + -((2 ^ 25 % sq : Nat) * v + areaLoss sq v) / 2 ^ 25 := by
  have reciprocal : (sq : Int) * (2 ^ 25 / sq : Nat) = 2 ^ 25 - (2 ^ 25 % sq : Nat) :=
    eq_sub_of_add_eq (by exact_mod_cast Nat.div_add_mod (2 ^ 25) sq)
  have scaled : 64 * (roundedArea sq (8 * sq * v) * (2 ^ 25 / sq : Nat)) =
      2 ^ 25 * v + -((2 ^ 25 % sq : Nat) * v + areaLoss sq v) := by
    rw [areaLoss, ← mul_assoc, roundedArea_const, sub_mul, mul_right_comm, reciprocal]
    ring
  rw [hostSample]
  omega

theorem hostSample_const_le (hv : 0 ≤ v) (sq : Nat) : hostSample sq (2 ^ 25 / sq) (8 * sq * v) ≤ v := by
  have short : 0 ≤ ((2 ^ 25 % sq : Nat) : Int) * v := mul_nonneg (Int.natCast_nonneg _) hv
  have := areaLoss_nonneg sq v
  rw [hostSample_const]
  omega

/-- A constant that is not positive loses to the rounding of the area alone. -/
theorem sub_le_hostSample_const {loss : Int} (hv : v ≤ 0) (h : areaLoss sq v ≤ loss * 2 ^ 25) :
    v - loss ≤ hostSample sq (2 ^ 25 / sq) (8 * sq * v) := by
  have short : ((2 ^ 25 % sq : Nat) : Int) * v ≤ 0 := mul_nonpos_of_nonneg_of_nonpos (Int.natCast_nonneg _) hv
  rw [hostSample_const]
  omega

/-- The error bound of 43_resampler.md R145. -/
theorem abs_hostSample_const_sub_le (hsq : 64 ≤ sq) (v : Int) :
    |hostSample sq (2 ^ 25 / sq) (8 * sq * v) - v| ≤ 2 + |v| * sq / 2 ^ 25 := by
  have loss : areaLoss sq v < 2 ^ 25 := areaLoss_lt (by norm_num) (by norm_num) hsq v
  have nonneg := areaLoss_nonneg sq v
  have short : |((2 ^ 25 % sq : Nat) : Int) * v| ≤ |v| * sq := by
    rw [abs_mul, Nat.abs_cast, mul_comm]
    exact mul_le_mul_of_nonneg_left (Int.ofNat_le.mpr (Nat.mod_lt _ (by omega)).le) (abs_nonneg v)
  rw [hostSample_const]
  rw [abs_le] at short ⊢
  omega

/-- A power of two divides `2 ^ 25` and what the area is rounded by. -/
theorem hostSample_const_pow {k : Nat} (low : 6 ≤ k) (high : k ≤ 25) (v : Int) :
    hostSample (2 ^ k) (2 ^ 25 / 2 ^ k) (8 * (2 ^ k : Nat) * v) = v := by
  have uncut : cutOff (2 ^ k) v = 0 := by
    have whole {m : Nat} (h : m ≤ k) : 2 ^ m ∣ ((2 ^ k : Nat) : Int) * v := by
      exact_mod_cast Dvd.dvd.mul_right (pow_dvd_pow (2 : Int) h) v
    rw [cutOff]
    split_ifs with small
    · exact Int.emod_eq_zero_of_dvd (whole low)
    · have : 12 < k := (Nat.pow_lt_pow_iff_right (by norm_num)).mp (not_le.mp small)
      exact Int.emod_eq_zero_of_dvd (whole (m := 9) (by omega))
  rw [hostSample_const, areaLoss, uncut, Nat.mod_eq_zero_of_dvd (pow_dvd_pow 2 high)]
  simp

end Constant
section Range
variable {sq tq scale : Nat} {unread : List Pair} {lo hi loss : Int}

/-- Both components of a pair lie between `lo` and `hi`. -/
abbrev PairWithin (lo hi : Int) (p : Pair) : Prop := (lo ≤ p.s0 ∧ p.s0 ≤ hi) ∧ lo ≤ p.s1 ∧ p.s1 ≤ hi

/-- The area of samples between `lo` and `hi` lies between those of the constants. -/
theorem weightedArea_within {c : Pair → Int} (enough : (tq + sq - 1) / 512 + 7 < unread.length)
    (h : ∀ x ∈ unread, lo ≤ c x ∧ c x ≤ hi) :
    8 * sq * lo ≤ weightedArea sq tq (fun i => c (unread.getD i ⟨0, 0⟩)) ∧
    weightedArea sq tq (fun i => c (unread.getD i ⟨0, 0⟩)) ≤ 8 * sq * hi := by
  have sample : ∀ i ≤ (tq + sq - 1) / 512 + 7, lo ≤ c (unread.getD i ⟨0, 0⟩) ∧ c (unread.getD i ⟨0, 0⟩) ≤ hi := by
    intro i needed
    rw [List.getD_eq_getElem _ _ (by omega)]
    exact h _ (List.getElem_mem _)
  rw [← weightedArea_const sq tq lo, ← weightedArea_const sq tq hi]
  exact ⟨weightedArea_mono fun i hi => (sample i hi).1, weightedArea_mono fun i hi => (sample i hi).2⟩

/-- The host sample of an area between those of two constants. -/
theorem hostSample_within {A : Int} (hlo : lo ≤ 0) (hhi : 0 ≤ hi) (lost : areaLoss sq lo ≤ loss * 2 ^ 25)
    (hA : 8 * sq * lo ≤ A ∧ A ≤ 8 * sq * hi) :
    lo - loss ≤ hostSample sq (2 ^ 25 / sq) A ∧ hostSample sq (2 ^ 25 / sq) A ≤ hi :=
  ⟨(sub_le_hostSample_const hlo lost).trans (hostSample_mono sq _ hA.1),
    (hostSample_mono sq _ hA.2).trans (hostSample_const_le hhi sq)⟩

/-- A host pair is no wider than the ring, but for what the rounding loses below. -/
theorem mixOne_within (hlo : lo ≤ 0) (hhi : 0 ≤ hi) (lost : areaLoss sq lo ≤ loss * 2 ^ 25)
    (enough : (tq + sq - 1) / 512 + 7 < unread.length) (h : ∀ x ∈ unread, PairWithin lo hi x) :
    PairWithin (lo - loss) hi (mixOne sq (2 ^ 25 / sq) tq unread) := by
  rw [mixOne_eq_hostSample enough]
  exact ⟨hostSample_within hlo hhi lost (weightedArea_within enough fun x hx => (h x hx).1),
    hostSample_within hlo hhi lost (weightedArea_within enough fun x hx => (h x hx).2)⟩

/-- A ring in the range of 42_log2lin.md R123, at any step. -/
theorem mixOne_of_pairRange (hsq : 1 ≤ sq) (enough : (tq + sq - 1) / 512 + 7 < unread.length)
    (h : ∀ x ∈ unread, PairRange x) : PairWithin (-32668) 32604 (mixOne sq (2 ^ 25 / sq) tq unread) :=
  mixOne_within (lo := -32604) (loss := 64) (by norm_num) (by norm_num)
    (areaLoss_lt (by norm_num) (by norm_num) hsq _).le enough h

/-- A ring whose pairs are all `(v, v)`. -/
theorem mixOne_replicate {n : Nat} (enough : (tq + sq - 1) / 512 + 7 < n) (v : Int) :
    mixOne sq scale tq (List.replicate n ⟨v, v⟩) =
      ⟨hostSample sq scale (8 * sq * v), hostSample sq scale (8 * sq * v)⟩ := by
  have area {c : Pair → Int} (hc : c ⟨v, v⟩ = v) :
      weightedArea sq tq (fun i => c ((List.replicate n ⟨v, v⟩).getD i ⟨0, 0⟩)) = 8 * sq * v := by
    obtain ⟨low, high⟩ := weightedArea_within (lo := v) (hi := v) (c := c) (unread := List.replicate n ⟨v, v⟩)
      (by rwa [List.length_replicate]) fun x hx => by rw [List.eq_of_mem_replicate hx, hc]; exact ⟨le_rfl, le_rfl⟩
    exact le_antisymm high low
  rw [mixOne_eq_hostSample (by rwa [List.length_replicate]), area rfl, area rfl]

end Range

/-- The margin of the reserve: the last pair read is below it (43_resampler.md R141). -/
theorem last_lt_reserve {tq : Nat} (htq : tq < 512) (sq : Nat) : (tq + sq - 1) / 512 + 7 < reserve sq := by
  rw [reserve_eq]
  omega

/-! ## The obligations on weights, areas and ranges -/

/-- Settles O27: the window of a pair ends where that of the eighth after it begins, so the sum telescopes. -/
theorem weightsOfAnInterval : Obligations.WeightsOfAnInterval := by
  intro tq sq htq hsq
  refine ⟨fun i => ?_, fun i => weight_of_last_lt htq, fun i => weight_pos htq hsq,
    fun i => ⟨weight_nonneg .., weight_le i tq sq⟩, fun i full => ?_, sum_weight tq sq⟩
  · rw [weight_eq, Nat.cast_add]
  · have := weight_le i tq sq
    omega

/-- Settles O28: the list walks are sums over the interval's pairs, and the weights of R138 are overlaps. -/
theorem hostPairIsTheAreaSum : Obligations.HostPairIsTheAreaSum := by
  refine ⟨fun sq scale tq unread => mixOne_eq_areaSum, fun sq tq i htq large needed => ?_⟩
  rw [weight_eq]
  refine ⟨fun head => ?_, fun tail => ?_, fun low high => ?_⟩ <;> omega

/-- Settles O29: an interval no longer than a tick ends inside the first window or one tick later. -/
theorem slowRatiosWeighNinePairs : Obligations.SlowRatiosWeighNinePairs := by
  intro tq sq htq hsq slow w hw
  have first : weight 0 tq (tq + sq) = sq - w := by rw [weight_eq]; omega
  have middle : ∀ i : Nat, 1 ≤ i → i ≤ 7 → weight i tq (tq + sq) = sq := fun i _ _ => by rw [weight_eq]; omega
  have last : weight 8 tq (tq + sq) = w := by rw [weight_eq]; omega
  refine ⟨first, middle, last, fun i _ => weight_of_last_lt htq (by omega), fun p0 p1 p2 p3 p4 p5 p6 p7 p8 => ?_⟩
  simp only [weightedSum, first, middle, last, zero_add, add_zero, le_refl, Nat.one_le_ofNat, Nat.reduceAdd,
    Nat.reduceLeDiff]
  ring

/-- Settles O32, from the constants that bound the ring. -/
theorem hostPairRange : Obligations.HostPairRange := by
  refine ⟨fun sq tq unread htq hsq enough o ho => ⟨fun h => ?_, fun h => ⟨?_, fun fine => ?_⟩⟩, fun acc scale => ?_⟩
  · subst ho
    simp only [abs_le] at h ⊢
    exact mixOne_within (loss := 0) (by norm_num) (by norm_num)
      (areaLoss_of_dvd (Dvd.dvd.mul_left (by norm_num) _)).le enough h
  · obtain ⟨⟨low0, high0⟩, low1, high1⟩ := mixOne_of_pairRange hsq enough h
    subst ho
    exact ⟨low0, high0, low1, high1⟩
  · obtain ⟨⟨low0, -⟩, low1, -⟩ := mixOne_within (lo := -32604) (loss := 1) (by norm_num) (by norm_num)
      (areaLoss_lt (by norm_num) (by norm_num) fine _).le enough h
    subst ho
    exact ⟨low0, low1⟩
  · rw [mul_assoc]
    omega

/-- Settles O34: the area of a constant is the constant times `8 * sq`, wherever the interval starts. -/
theorem constantStreamsArePreserved : Obligations.ConstantStreamsArePreserved := by
  refine ⟨fun k tq v n low high _ enough => ?_, fun sq tq v n hsq _ enough _ => ?_,
    fun sq scale tq tq' v n n' _ _ _ enough enough' => ?_, ?_, ?_, ?_⟩
  · rw [mixOne_replicate enough, hostSample_const_pow low high]
  · exact ⟨_, mixOne_replicate enough v, abs_hostSample_const_sub_le hsq v⟩
  · rw [mixOne_replicate enough, mixOne_replicate enough']
  all_goals
    rw [mixOne_replicate (by norm_num)]
    decide

/-- Settles O30: the interval ends inside the tick that `ceil(sq / 512)` counts. -/
theorem reserveCoversEveryRead : Obligations.ReserveCoversEveryRead := by
  intro tq sq htq hsq
  rw [reserve_eq, lastPair_eq]
  omega

/-- Settles O36: `MIX` is `MixBody` of the parameters, the `SoundState` and the host. -/
theorem mixReadsNoPortAndNoMemory : Obligations.MixReadsNoPortAndNoMemory := by
  intro s s' t t' sound host params run run'
  obtain ⟨v, active, rfl⟩ := execMix_next run
  obtain ⟨v', active', rfl⟩ := execMix_next run'
  cases active.2.symm.trans (sound.trans active'.2)
  simp only [State.setHost_sound, State.setSound_sound, State.setHost_host, params, host, and_self]

/-! ## The drain (43_resampler.md R140, R141, R143) -/

section Drain
variable {sq scale : Nat} {ring : List Pair}

/-- What the loop leaves when it starts at position `pos` of the source time axis, in terms of positions: the pairs it
delivers, where each is read, what is left, and why it stopped. -/
structure DrainedFrom (sq scale room : Nat) (ring : List Pair) (pos : Nat) (d : Drain) : Prop where
  unread : d.unread = ring.drop ((pos + d.out.length * sq) / 512)
  time : d.time = (pos + d.out.length * sq) % 512
  fits : d.out.length ≤ room
  delivered : ∀ k < d.out.length,
    d.out[k]? = some (mixOne sq scale ((pos + k * sq) % 512) (ring.drop ((pos + k * sq) / 512)))
  covered : ∀ k < d.out.length, reserve sq + (pos + k * sq) / 512 ≤ ring.length
  stopped : d.out.length < room → ring.length < reserve sq + (pos + d.out.length * sq) / 512

theorem drainedFrom_nothing {room pos : Nat} (h : 0 < room → (ring.drop (pos / 512)).length < reserve sq) :
    DrainedFrom sq scale room ring pos ⟨[], ring.drop (pos / 512), pos % 512⟩ where
  unread := by simp
  time := by simp
  fits := Nat.zero_le _
  delivered _ hk := absurd hk (Nat.not_lt_zero _)
  covered _ hk := absurd hk (Nat.not_lt_zero _)
  stopped hr := by
    have few := h hr
    rw [List.length_drop, reserve_eq] at few
    simp only [List.length_nil, reserve_eq]
    omega

theorem mixLoop_drainedFrom (sq scale room : Nat) (ring : List Pair) (pos : Nat) :
    DrainedFrom sq scale room ring pos (mixLoop sq scale room (ring.drop (pos / 512)) (pos % 512)) := by
  induction room generalizing pos with
  | zero => exact drainedFrom_nothing fun hr => absurd hr (Nat.lt_irrefl 0)
  | succ room ih =>
    by_cases enough : reserve sq ≤ (ring.drop (pos / 512)).length
    · have next_drop : pos / 512 + (pos % 512 + sq) / 512 = (pos + sq) / 512 := by omega
      have next_time : (pos % 512 + sq) % 512 = (pos + sq) % 512 := by omega
      have shift (k : Nat) : pos + sq + k * sq = pos + (k + 1) * sq := by ring
      obtain ⟨unread, time, fits, delivered, covered, stopped⟩ := ih (pos + sq)
      rw [mixLoop_round enough, ONE_eq, List.drop_drop, next_drop, next_time]
      simp only [shift] at unread time delivered covered stopped
      refine ⟨unread, time, Nat.succ_le_succ fits, fun k hk => ?_, fun k hk => ?_,
        fun hr => stopped (Nat.lt_of_succ_lt_succ hr)⟩
      · cases k with
        | zero => simp
        | succ k => exact delivered k (Nat.lt_of_succ_lt_succ hk)
      · cases k with
        | zero =>
          rw [List.length_drop, reserve_eq] at enough
          rw [reserve_eq]
          omega
        | succ k => exact covered k (Nat.lt_of_succ_lt_succ hk)
    · rw [mixLoop_stop (.inr (Nat.lt_of_not_le enough))]
      exact drainedFrom_nothing fun _ => Nat.lt_of_not_le enough

/-- A drain that starts in the first tick. -/
theorem mixLoop_drained (sq scale room : Nat) (ring : List Pair) {tq : Nat} (htq : tq < 512) :
    DrainedFrom sq scale room ring tq (mixLoop sq scale room ring tq) := by
  have start := mixLoop_drainedFrom sq scale room ring tq
  rwa [Nat.div_eq_of_lt htq, Nat.mod_eq_of_lt htq, List.drop_zero] at start

end Drain

/-- Settles O31, by what the loop leaves in terms of positions. -/
theorem mixDrainsTheRing : Obligations.MixDrainsTheRing := by
  refine ⟨fun s v lent rest active htq lends cap => ?_, fun s v active cap => ?_, fun s => requireActive_of_uninit _,
    by decide⟩
  · have lent_next : s.host.nextLend = lent := by rw [HostSink.nextLend, lends]; rfl
    obtain ⟨unread, time, fits, delivered, covered, stopped⟩ :=
      mixLoop_drained v.resampleStep v.outputScale lent.cap v.ring htq
    rw [reserve_eq] at covered stopped
    refine ⟨(mixLoop v.resampleStep v.outputScale lent.cap v.ring v.resampleTime).out, ?_, fits,
      fun k hk => ⟨delivered k hk, covered k hk⟩, stopped⟩
    show execMix s = _
    rw [execMix_active active, mixBody_lent (by rwa [lent_next]), lent_next, drained, unread, time]
    simp only [HostSink.buffered, HostSink.getBuffer, lends, lent_next, List.append_assoc]
    rfl
  · show execMix s = _
    rw [execMix_active active, mixBody_nothing_lent cap, setSound_of_active active]
    simp only [HostSink.getBuffer, cap]
    rfl

/-! ## The flush (43_resampler.md R132, R181) -/

section Flush
variable {s : State} {v : SoundState}

/-- The state with the `SoundState` and the host sink that mixing leaves. -/
def State.mixed (s : State) (m : Mixed) : State := (s.setSound (some m.sound)).setHost m.host

theorem mixTimes_succ (active : Active s v) (n : Nat) :
    mixTimes (n + 1) s = mixTimes n (s.mixed (mixBody s.params v s.host)) := by
  rw [mixTimes, show exec .mix s = .next (s.mixed (mixBody s.params v s.host)) from execMix_active active]

/-- The rounds of a flush are `MIX` issued once or more. -/
theorem flushRounds_eq_mixTimes (rounds : Nat) (active : Active s v) :
    ∃ n, 1 ≤ n ∧ mixTimes n s = .next (s.mixed (flushRounds s.params rounds v s.host)) := by
  induction rounds generalizing s v with
  | zero => exact ⟨1, le_rfl, mixTimes_succ active 0⟩
  | succ rounds ih =>
    rw [flushRounds]
    split
    · exact ⟨1, le_rfl, mixTimes_succ active 0⟩
    · obtain ⟨n, -, run⟩ := ih (s := s.mixed (mixBody s.params v s.host)) ⟨active.1, rfl⟩
      exact ⟨n + 1, Nat.le_add_left 1 n, (mixTimes_succ active n).trans run⟩

/-- A `Mixed` with another `dmaRate`. -/
def Mixed.setDmaRate (m : Mixed) (rate : Nat) (key : DmaKey) : Mixed := { m with sound := m.sound.setDmaRate rate key }

/-- Mixing neither reads nor writes `dmaRate`. -/
theorem mixBody_setDmaRate (p : Params) (v : SoundState) (h : HostSink) (rate : Nat) (key : DmaKey) :
    mixBody p (v.setDmaRate rate key) h = (mixBody p v h).setDmaRate rate key := by
  by_cases cap : h.nextLend.cap = 0
  · rw [mixBody_nothing_lent cap, mixBody_nothing_lent cap]
    rfl
  · rw [mixBody_lent cap, mixBody_lent cap, Mixed.setDmaRate]
    cases h.nextLend.report with
    | some report => rfl
    | none =>
      simp only [applyFeedback]
      split <;> rfl

theorem flushRounds_setDmaRate (p : Params) (rounds : Nat) (v : SoundState) (h : HostSink) (rate : Nat) (key : DmaKey) :
    flushRounds p rounds (v.setDmaRate rate key) h = (flushRounds p rounds v h).setDmaRate rate key := by
  induction rounds generalizing v h with
  | zero => exact mixBody_setDmaRate p v h rate key
  | succ rounds ih =>
    rw [flushRounds, mixBody_setDmaRate, flushRounds]
    by_cases stop : (mixBody p v h).produced = 0
    · rw [if_pos stop]
      exact if_pos stop
    · rw [if_neg stop, ← ih]
      exact if_neg stop

/-- `v'` has the ring, the time and the fudge of `v`: what mixing writes. -/
structure SameMixed (v v' : SoundState) : Prop where
  ring : v'.ring = v.ring
  time : v'.resampleTime = v.resampleTime
  fudge : v'.fudgeRate = v.fudgeRate

theorem sameMixed_refl (v : SoundState) : SameMixed v v := ⟨rfl, rfl, rfl⟩

theorem sameMixed_trans {a b c : SoundState} (h : SameMixed a b) (k : SameMixed b c) : SameMixed a c :=
  ⟨k.ring.trans h.ring, k.time.trans h.time, k.fudge.trans h.fudge⟩

theorem sameMixed_setDmaRate (v : SoundState) (rate : Nat) (key : DmaKey) : SameMixed v (v.setDmaRate rate key) :=
  ⟨rfl, rfl, rfl⟩

theorem sameMixed_setHostRate (v : SoundState) (rate : BitVec 32) : SameMixed v (v.setHostRate rate) := ⟨rfl, rfl, rfl⟩

theorem sameMixed_setStep (v : SoundState) (step scale : Nat) (key : StepKey) :
    SameMixed v (v.setStep step scale key) :=
  ⟨rfl, rfl, rfl⟩

/-- A flush after `UpdateDmaRate` mixes what a flush before it would. -/
theorem flush_updateDmaRate (p : Params) (ports : Ports) (v : SoundState) (h : HostSink) :
    (flush p (updateDmaRate p ports v) h).host = (flush p v h).host ∧
    SameMixed (flush p v h).sound (flush p (updateDmaRate p ports v) h).sound := by
  by_cases hk : v.memoD = some (dmaKey ports)
  · rw [updateDmaRate_hit hk]
    exact ⟨rfl, sameMixed_refl _⟩
  · rw [updateDmaRate_miss hk, flush, flushRounds_setDmaRate]
    exact ⟨rfl, sameMixed_setDmaRate ..⟩

/-- `UpdateDmaRate` leaves what the key of `memoS` is compared with. -/
theorem updateDmaRate_memoS (p : Params) (ports : Ports) (v : SoundState) :
    (updateDmaRate p ports v).memoS = v.memoS ∧ (updateDmaRate p ports v).hostRate = v.hostRate := by
  by_cases hk : v.memoD = some (dmaKey ports)
  · rw [updateDmaRate_hit hk]
    exact ⟨rfl, rfl⟩
  · rw [updateDmaRate_miss hk]
    exact ⟨rfl, rfl⟩

/-- The coefficients that `UpdateStep` writes after its flush are no part of what mixing writes. -/
theorem updateStep_flushes {ports : Ports} (p : Params) (h : HostSink)
    (hk : v.memoS ≠ some (stepKey ports v.hostRate)) :
    (updateStep p ports true v h).2 = (flush p v h).host ∧
    SameMixed (flush p v h).sound (updateStep p ports true v h).1 := by
  rw [updateStep_miss_flush hk]
  exact ⟨rfl, sameMixed_setStep ..⟩

/-- `UpdateStep` without a flush, hit or miss, mixes nothing. -/
theorem updateStep_noFlush (p : Params) (ports : Ports) (v : SoundState) (h : HostSink) :
    (updateStep p ports false v h).2 = h ∧ SameMixed v (updateStep p ports false v h).1 := by
  by_cases hk : v.memoS = some (stepKey ports v.hostRate)
  · rw [updateStep_hit hk]
    exact ⟨rfl, sameMixed_refl v⟩
  · rw [updateStep_miss hk]
    exact ⟨rfl, sameMixed_setStep ..⟩

/-- `FREQUPD` with a new key of `memoS` leaves what a flush of the `SoundState` it met leaves (45_fetch_scheduler.md
R180). -/
theorem frequpd_flushes (p : Params) (h : HostSink) {ports : Ports} (hk : v.memoS ≠ some (stepKey ports v.hostRate)) :
    (updateStep p ports true (updateDmaRate p ports v) h).2 = (flush p v h).host ∧
    SameMixed (flush p v h).sound (updateStep p ports true (updateDmaRate p ports v) h).1 := by
  obtain ⟨memoS, rate⟩ := updateDmaRate_memoS p ports v
  obtain ⟨host, mixed⟩ := flush_updateDmaRate p ports v h
  obtain ⟨host', mixed'⟩ := updateStep_flushes (v := updateDmaRate p ports v) p h (by rwa [memoS, rate])
  exact ⟨host'.trans host, sameMixed_trans mixed mixed'⟩

/-- `RATEUPD` with a new key of `memoS` leaves what a flush leaves (45_fetch_scheduler.md R181). -/
theorem rateUpdated_flushes (hk : v.memoS ≠ some (stepKey s.ports s.ports.hostRateIn)) :
    (rateUpdated s v).2 = (flush s.params v s.host).host ∧
    SameMixed (flush s.params v s.host).sound (rateUpdated s v).1 := by
  rw [rateUpdated, rateFlush, if_neg hk]
  obtain ⟨host, mixed⟩ := updateStep_noFlush s.params s.ports
    ((flush s.params v s.host).sound.setHostRate s.ports.hostRateIn) (flush s.params v s.host).host
  exact ⟨host, sameMixed_trans (sameMixed_setHostRate ..) mixed⟩

end Flush

/-- Settles O40: both commands leave what a flush leaves, and its rounds are `MIX`. -/
theorem flushIsRepeatedMix : Obligations.FlushIsRepeatedMix := by
  intro s t v v' i key active command newKey run sound
  obtain ⟨n, once, mixes⟩ := flushRounds_eq_mixTimes s.host.lends.length active
  refine ⟨n, _, _, once, mixes, rfl, ?_⟩
  obtain ⟨rfl, rfl⟩ | ⟨rfl, rfl⟩ := command
  · obtain ⟨u, hu, rfl⟩ := execFrequpd_next run
    cases hu.2.symm.trans active.2
    cases sound
    obtain ⟨host, ring, time, fudge⟩ := frequpd_flushes s.params s.host newKey
    exact ⟨ring, time, fudge, host⟩
  · obtain ⟨u, hu, -, rfl⟩ := execRateupd_next run
    cases hu.2.symm.trans active.2
    cases sound
    obtain ⟨host, ring, time, fudge⟩ := rateUpdated_flushes newKey
    exact ⟨ring, time, fudge, host⟩

/-! ## What the host is handed (43_resampler.md R142; 30_encoding.md R90; 20_memory.md R68) -/

section HostRecord
variable {p : Params} {v : SoundState}

/-- A call that hands the host signed 16-bit samples and no fewer pairs than it accepts. -/
def HostCall.Sound16 : HostCall → Prop
  | .buffered pairs taken => taken ≤ pairs.length ∧ ∀ x ∈ pairs, Pair16 x
  | .init | .getBuffer _ | .quit => True

/-- The host's record grew at its end, by calls that hand over signed 16-bit samples. -/
def Handed (h h' : HostSink) : Prop := ∃ made, h'.calls = h.calls ++ made ∧ ∀ c ∈ made, c.Sound16

theorem handed_refl (h : HostSink) : Handed h h := ⟨[], by simp⟩

theorem handed_trans {a b c : HostSink} (h : Handed a b) (k : Handed b c) : Handed a c := by
  obtain ⟨made, calls, good⟩ := h
  obtain ⟨made', calls', good'⟩ := k
  exact ⟨made ++ made', by rw [calls', calls, List.append_assoc],
    fun c hc => (List.mem_append.mp hc).elim (good c) (good' c)⟩

theorem handed_of_call {h h' : HostSink} {c : HostCall} (calls : h'.calls = h.calls ++ [c]) (good : c.Sound16) :
    Handed h h' :=
  ⟨[c], calls, fun d hd => by rwa [List.mem_singleton.mp hd]⟩

theorem scaleFor_eq (step : Nat) : scaleFor step = 2 ^ 25 / step := rfl

/-- A ring that meets the invariant is drained into signed 16-bit pairs. -/
theorem mixLoop_pair16 (inv : SoundInv p v) (room : Nat) :
    ∀ x ∈ (mixLoop v.resampleStep v.outputScale room v.ring v.resampleTime).out, Pair16 x := by
  have drained := mixLoop_drained v.resampleStep v.outputScale room v.ring inv.time_fraction
  intro x hx
  obtain ⟨k, hk, rfl⟩ := List.getElem_of_mem hx
  have pair := drained.delivered k hk
  have covered := drained.covered k hk
  have reads := last_lt_reserve (Nat.mod_lt (v.resampleTime + k * v.resampleStep) (by norm_num)) v.resampleStep
  have enough : ((v.resampleTime + k * v.resampleStep) % 512 + v.resampleStep - 1) / 512 + 7 <
      (v.ring.drop ((v.resampleTime + k * v.resampleStep) / 512)).length := by
    rw [List.length_drop]
    exact reads.trans_le (Nat.le_sub_of_add_le covered)
  obtain ⟨⟨low0, high0⟩, low1, high1⟩ := mixOne_of_pairRange inv.step_pos enough
    fun x hx => inv.ring_range x (List.mem_of_mem_drop hx)
  rw [List.getElem?_eq_getElem hk, Option.some.injEq] at pair
  rw [pair, inv.scale_matches, scaleFor_eq]
  refine ⟨⟨?_, ?_⟩, ?_, ?_⟩ <;> omega

theorem mixBody_handed (inv : SoundInv p v) (h : HostSink) : Handed h (mixBody p v h).host := by
  by_cases cap : h.nextLend.cap = 0
  · rw [mixBody_nothing_lent cap]
    exact handed_of_call rfl trivial
  · rw [mixBody_lent cap]
    exact handed_trans (handed_of_call (HostSink.getBuffer_calls h) trivial)
      (handed_of_call rfl ⟨min_le_right .., mixLoop_pair16 inv _⟩)

theorem flushRounds_handed (rounds : Nat) (inv : SoundInv p v) (h : HostSink) :
    Handed h (flushRounds p rounds v h).host := by
  induction rounds generalizing v h with
  | zero => exact mixBody_handed inv h
  | succ rounds ih =>
    rw [flushRounds]
    split
    · exact mixBody_handed inv h
    · exact handed_trans (mixBody_handed inv h) (ih (soundInv_onlyMixed inv (mixBody_onlyMixed p v h)) _)

theorem flush_handed (inv : SoundInv p v) (h : HostSink) : Handed h (flush p v h).host :=
  flushRounds_handed _ inv h

theorem updateStep_flush_handed (inv : SoundInv p v) (ports : Ports) (h : HostSink) :
    Handed h (updateStep p ports true v h).2 := by
  by_cases hk : v.memoS = some (stepKey ports v.hostRate)
  · rw [updateStep_hit hk]
    exact handed_refl h
  · rw [updateStep_miss_flush hk]
    exact flush_handed inv h

theorem rateUpdated_handed {s : State} (inv : SoundInv s.params v) : Handed s.host (rateUpdated s v).2 := by
  rw [rateUpdated, (updateStep_noFlush ..).1, rateFlush]
  split
  · exact handed_refl s.host
  · exact flush_handed inv s.host

/-- What `TICK` mixes meets the invariant (45_fetch_scheduler.md R172). -/
theorem soundInv_tickFetched {s : State} (inv : SoundInv s.params v) : SoundInv s.params (tickFetched s v) :=
  have rated := soundInv_updateDmaRate inv s.ports
  soundInv_appendUnits rated _ _ (availUnits_fits _ rated.ring_fits)

theorem exec_handed {i : Instr} {s t : State} (inv : StateInv s) (run : exec i s = .next t) : Handed s.host t.host := by
  cases i with
  | init =>
    obtain ⟨-, rfl | ⟨rate, batch, sense, -, -, rfl⟩⟩ := execInit_next run <;> exact handed_of_call rfl trivial
  | shutdown =>
    obtain ⟨v, -, rfl | rfl⟩ := execShutdown_next run
    · exact handed_of_call rfl trivial
    · exact handed_refl s.host
  | lookup code =>
    obtain ⟨v, -, rfl⟩ := execLookup_next run
    exact handed_refl s.host
  | panupd =>
    obtain ⟨v, -, rfl⟩ := execPanupd_next run
    exact handed_refl s.host
  | frequpd =>
    obtain ⟨v, active, rfl⟩ := execFrequpd_next run
    exact updateStep_flush_handed (soundInv_updateDmaRate (inv.sound_inv v active.2) _) _ _
  | rateupd =>
    obtain ⟨v, active, -, rfl⟩ := execRateupd_next run
    exact rateUpdated_handed (inv.sound_inv v active.2)
  | tick =>
    obtain ⟨v, time, active, rfl⟩ := execTick_next run
    exact mixBody_handed (soundInv_tickFetched (inv.sound_inv v active.2)) s.host
  | l2l avail =>
    obtain ⟨v, -, -, rfl⟩ := execL2l_next run
    exact handed_refl s.host
  | mix =>
    obtain ⟨v, active, rfl⟩ := execMix_next run
    exact mixBody_handed (inv.sound_inv v active.2) s.host
  | feedbk =>
    obtain ⟨v, -, rfl⟩ := execFeedbk_next run
    exact handed_refl s.host

end HostRecord

/-- Settles O33: every delivery is a drain of a ring that meets the invariant. -/
theorem everyHostSampleFitsSixteenBits : Obligations.EveryHostSampleFitsSixteenBits := by
  intro i s t inv run
  obtain ⟨made, calls, good⟩ := exec_handed inv run
  exact ⟨made, calls, fun pairs taken delivered => good _ delivered⟩

end Sys2Proof.Machine
end

section
/-! The family of 44_rate_control.md: the five cases of `Classify` (R161), which way each moves `fudgeRate` (R163), reports
in the middle of the buffer (R165), `FEEDBK` (R160) and `ApplyFeedback` (R162). -/

namespace Sys2Proof.Machine

/-! ## The cases of `Classify` (44_rate_control.md R161)

One equation per case, each under the negation of the cases before it. -/

section Classify
variable {p : Params} {f : Int} {r : Report}

theorem classify_of_underflow (empty : r.used = 0) :
    classify p f r = if (p.fudgeStep : Int) < f then f.tdiv 2 else f - p.fudgeStep := if_pos empty

theorem classify_of_overflow (used : r.used ≠ 0) (overrun : (r.cap : Int) - r.used < r.attempted) :
    classify p f r = if f < -(p.fudgeStep : Int) then f.tdiv 2 else f + p.fudgeStep :=
  (if_neg used).trans (if_pos overrun)

/-- Past the first two cases the occupancy alone decides. -/
theorem classify_of_fits (used : r.used ≠ 0) (fits : (r.attempted : Int) ≤ r.cap - r.used) :
    classify p f r = if r.used < r.cap / 4 then f - p.fudgeNudge else if 3 * r.cap / 4 < r.used then f + p.fudgeNudge
      else if 0 < f then f - 1 else if f < 0 then f + 1 else 0 :=
  (if_neg used).trans (if_neg fits.not_gt)

theorem classify_of_low (used : r.used ≠ 0) (fits : (r.attempted : Int) ≤ r.cap - r.used) (low : r.used < r.cap / 4) :
    classify p f r = f - p.fudgeNudge := (classify_of_fits used fits).trans (if_pos low)

theorem classify_of_high (used : r.used ≠ 0) (fits : (r.attempted : Int) ≤ r.cap - r.used) (low : r.cap / 4 ≤ r.used)
    (high : 3 * r.cap / 4 < r.used) : classify p f r = f + p.fudgeNudge := by
  rw [classify_of_fits used fits, if_neg low.not_gt, if_pos high]

theorem classify_of_middle (used : r.used ≠ 0) (fits : (r.attempted : Int) ≤ r.cap - r.used) (low : r.cap / 4 ≤ r.used)
    (high : r.used ≤ 3 * r.cap / 4) : classify p f r = if 0 < f then f - 1 else if f < 0 then f + 1 else 0 := by
  rw [classify_of_fits used fits, if_neg low.not_gt, if_neg high.not_gt]

end Classify

/-- Settles O42: each clause is the equation of its case. -/
theorem classifyCases : Obligations.ClassifyCases := by
  refine fun p f used cap attempted => ⟨fun empty above => ?_, fun empty below => ?_,
    fun hu overrun => ⟨fun below => ?_, fun above => ?_⟩,
    fun hu fits => ⟨fun low => classify_of_low hu fits low, fun low high => classify_of_high hu fits low high,
      fun low high => classify_of_middle hu fits low high⟩⟩
  · rw [classify_of_underflow empty, if_pos above]
  · rw [classify_of_underflow empty, if_neg below.not_gt]
  · rw [classify_of_overflow hu overrun, if_pos below]
  · rw [classify_of_overflow hu overrun, if_neg above.not_gt]

/-! ## Which way a report moves `fudgeRate` (44_rate_control.md R163) -/

section Direction
variable {p : Params} {f : Int} {r : Report}

theorem fudgeStep_pos (wf : p.WellFormed) : 0 < p.fudgeStep := by
  obtain ⟨-, nudge, step⟩ := wf
  omega

theorem tdiv_two_lt (pos : 0 < f) : f.tdiv 2 < f := by
  rw [Int.tdiv_eq_ediv_of_nonneg pos.le]
  omega

theorem lt_tdiv_two (neg : f < 0) : f < f.tdiv 2 := by
  have mirrored := tdiv_two_lt (Int.neg_pos_of_neg neg)
  rw [Int.neg_tdiv] at mirrored
  exact neg_lt_neg_iff.mp mirrored

/-- Halving lowers too, for it happens only above `FUDGE_STEP`, which is positive. -/
theorem classify_lt_of_underflow (wf : p.WellFormed) (empty : r.used = 0) : classify p f r < f := by
  have step := fudgeStep_pos wf
  rw [classify_of_underflow empty]
  split
  · exact tdiv_two_lt (by omega)
  · omega

theorem classify_lt_of_low (wf : p.WellFormed) (fits : (r.attempted : Int) ≤ r.cap - r.used)
    (low : r.used < r.cap / 4) : classify p f r < f := by
  by_cases empty : r.used = 0
  · exact classify_lt_of_underflow wf empty
  · obtain ⟨-, nudge, -⟩ := wf
    rw [classify_of_low empty fits low]
    omega

/-- Halving raises too, for it happens only below `-FUDGE_STEP`, which is negative. -/
theorem lt_classify_of_overflow (wf : p.WellFormed) (used : r.used ≠ 0)
    (overrun : (r.cap : Int) - r.used < r.attempted) : f < classify p f r := by
  have step := fudgeStep_pos wf
  rw [classify_of_overflow used overrun]
  split
  · exact lt_tdiv_two (by omega)
  · omega

theorem lt_classify_of_high (wf : p.WellFormed) (used : r.used ≠ 0) (low : r.cap / 4 ≤ r.used)
    (high : 3 * r.cap / 4 < r.used) : f < classify p f r := by
  by_cases fits : (r.attempted : Int) ≤ r.cap - r.used
  · obtain ⟨-, nudge, -⟩ := wf
    rw [classify_of_high used fits low high]
    omega
  · exact lt_classify_of_overflow wf used (not_le.mp fits)

end Direction

/-- Settles O45: an empty or low buffer lowers, an overrun or high one raises. -/
theorem feedbackOpposesTheOccupancy : Obligations.FeedbackOpposesTheOccupancy := by
  intro p f used cap attempted wf
  constructor
  · rintro (empty | ⟨fits, low⟩)
    · exact classify_lt_of_underflow wf empty
    · exact classify_lt_of_low wf fits low
  · rintro hu (overrun | ⟨low, high⟩)
    · exact lt_classify_of_overflow wf hu overrun
    · exact lt_classify_of_high wf hu low high

/-! ## Reports in the middle of the buffer (44_rate_control.md R165) -/

section Middle
variable {p : Params} {r : Report}

/-- On magnitudes, a report in the middle of the buffer is the predecessor, which stops at 0. -/
theorem natAbs_semiconj_classify (used : r.used ≠ 0) (fits : (r.attempted : Int) ≤ r.cap - r.used)
    (low : r.cap / 4 ≤ r.used) (high : r.used ≤ 3 * r.cap / 4) :
    Function.Semiconj Int.natAbs (fun f => classify p f r) Nat.pred := by
  intro f
  beta_reduce
  rw [classify_of_middle used fits low high, Nat.pred_eq_sub_one]
  split_ifs <;> omega

theorem natAbs_classify_iterate (used : r.used ≠ 0) (fits : (r.attempted : Int) ≤ r.cap - r.used)
    (low : r.cap / 4 ≤ r.used) (high : r.used ≤ 3 * r.cap / 4) (n : Nat) (f : Int) :
    ((fun f => classify p f r)^[n] f).natAbs = f.natAbs - n := by
  rw [((natAbs_semiconj_classify used fits low high).iterate_right n).eq, Nat.pred_iterate]

end Middle

/-- Settles O46: the magnitude goes down by one a report, and only 0 has magnitude 0. -/
theorem fudgeRateConverges : Obligations.FudgeRateConverges := by
  intro p f0 used cap attempted n pos low high fits
  have magnitude := natAbs_classify_iterate (p := p) (r := ⟨used, cap, attempted⟩) pos.ne' fits low high n f0
  constructor
  · rw [Int.abs_eq_natAbs, magnitude, Int.abs_eq_natAbs]
    omega
  · intro enough
    rw [← Int.natAbs_eq_zero, magnitude, Nat.sub_eq_zero_of_le enough]

/-! ## `FEEDBK` (44_rate_control.md R160) and `ApplyFeedback` (R162) -/

/-- Settles O43: the report is the sampled ports'. -/
theorem feedbkWritesFudgeRate : Obligations.FeedbkWritesFudgeRate :=
  ⟨fun _ _ => execFeedbk_active, fun _ => requireActive_of_uninit _, by decide⟩

section ApplyFeedback
variable {p : Params} (v : SoundState)

theorem applyFeedback_some (r : Report) : applyFeedback p v (some r) = v.setFudge (classify p v.fudgeRate r) := rfl

theorem applyFeedback_none (noFeedback : p.hasHostFeedback = false) :
    applyFeedback p v none = v.setFudge (classify p v.fudgeRate ⟨v.ringCount, p.ringCap, 0⟩) := by
  simp [applyFeedback, noFeedback]

theorem applyFeedback_none_of_hostFeedback (feedback : p.hasHostFeedback = true) : applyFeedback p v none = v :=
  if_pos feedback

end ApplyFeedback

/-- Settles O44: a report, the ring's occupancy in its place, or neither. -/
theorem feedbackAfterADelivery : Obligations.FeedbackAfterADelivery :=
  fun _ v => ⟨applyFeedback_some v, applyFeedback_none v, applyFeedback_none_of_hostFeedback v⟩

end Sys2Proof.Machine
end

section
/-! The family of 45_fetch_scheduler.md: the memoised recomputations of `FREQUPD` (R180) and `RATEUPD` (R181), and `TICK`:
the units it fetches (R175), the pointers (R174, R177), the timer (R176, R178) and the pipeline (R172). -/

namespace Sys2Proof.Machine

/-! ## What a flush leaves (43_resampler.md R132) -/

section EmptyRound
variable (p : Params)

/-- A round that produced nothing was lent nothing, or handed back no pair. -/
theorem mixBody_endsOnEmptyRound {v : SoundState} {h : HostSink} (empty : (mixBody p v h).produced = 0) :
    EndsOnEmptyRound (mixBody p v h).host.calls := by
  by_cases cap : h.nextLend.cap = 0
  · rw [mixBody_nothing_lent cap]
    exact .inl (by rw [HostSink.getBuffer_calls, cap, List.getLast?_concat])
  · rw [mixBody_lent cap] at empty ⊢
    have nothing := List.eq_nil_of_length_eq_zero empty
    exact .inr ⟨_, by rw [nothing, HostSink.buffered_calls, List.getLast?_concat]⟩

theorem flushRounds_endsOnEmptyRound (rounds : Nat) {v : SoundState} {h : HostSink}
    (empty : (flushRounds p rounds v h).produced = 0) : EndsOnEmptyRound (flushRounds p rounds v h).host.calls := by
  induction rounds generalizing v h with
  | zero => exact mixBody_endsOnEmptyRound p empty
  | succ rounds ih =>
    rw [flushRounds] at empty ⊢
    by_cases stop : (mixBody p v h).produced = 0
    · rw [if_pos stop]
      exact mixBody_endsOnEmptyRound p stop
    · rw [if_neg stop] at empty ⊢
      exact ih empty

theorem flush_endsOnEmptyRound (v : SoundState) (h : HostSink) : EndsOnEmptyRound (flush p v h).host.calls :=
  flushRounds_endsOnEmptyRound p _ (flush_produced p v h)

end EmptyRound

/-- What a flush can do: mix, call the host, and end on an empty round. -/
structure Flushed (v : SoundState) (h : HostSink) (m : Mixed) : Prop where
  mixed : OnlyMixed v m.sound
  host : HostAdvanced h m.host
  ended : EndsOnEmptyRound m.host.calls

theorem flush_flushed (p : Params) (v : SoundState) (h : HostSink) : Flushed v h (flush p v h) :=
  ⟨flush_onlyMixed p v h, flush_hostAdvanced p v h, flush_endsOnEmptyRound p v h⟩

/-! ## `UpdateDmaRate` and the coefficients (45_fetch_scheduler.md R171; 43_resampler.md R131) -/

section Recomputed
variable (p : Params) (ports : Ports) (v : SoundState)

/-- `UpdateDmaRate`, hit or miss, as one write: after a hit `memoD` is the present key already. -/
theorem updateDmaRate_eq : updateDmaRate p ports v = v.setDmaRate
    (if v.memoD = some (dmaKey ports) then v.dmaRate else dmaRateFor p (dmaKey ports)) (dmaKey ports) := by
  by_cases hk : v.memoD = some (dmaKey ports)
  · rw [updateDmaRate_hit hk, if_pos hk, SoundState.setDmaRate, ← hk]
  · rw [updateDmaRate_miss hk, if_neg hk]

/-- `resampleStep` for a key, with the shift as a numeral (43_resampler.md R131). -/
theorem stepFor_eq (k : StepKey) :
    stepFor p k = max 1 (srcRateOf p k.freqCode k.clockSel * 2 ^ 19 / k.hostRate.toNat) := by
  rw [stepFor, F_eq]

/-- `UpdateStep` with a new key, flushing. What the flush leaves and the step written have names, so that a field they do
not concern is compared without computing them. -/
theorem updateStep_new_key {ports : Ports} {v : SoundState} (h : HostSink)
    (hk : v.memoS ≠ some (stepKey ports v.hostRate)) :
    ∃ m step, Flushed v h m ∧
      step = max 1 (srcRateOf p ports.sndFreq ports.clkSel * 2 ^ 19 / v.hostRate.toNat) ∧
      updateStep p ports true v h = (m.sound.setStep step (2 ^ 25 / step) (stepKey ports v.hostRate), m.host) :=
  ⟨flush p v h, _, flush_flushed p v h, stepFor_eq p (stepKey ports v.hostRate), updateStep_miss_flush hk⟩

/-- `UpdateStep` leaves the present key in `memoS`, and what that key and `memoD` are compared with untouched. -/
theorem updateStep_flush_keys (h : HostSink) :
    (updateStep p ports true v h).1.memoS = some (stepKey ports v.hostRate) ∧
    (updateStep p ports true v h).1.hostRate = v.hostRate ∧ (updateStep p ports true v h).1.memoD = v.memoD := by
  by_cases hk : v.memoS = some (stepKey ports v.hostRate)
  · rw [updateStep_hit hk]
    exact ⟨hk, rfl, rfl⟩
  · obtain ⟨m, step, flushed, -, result⟩ := updateStep_new_key p h hk
    rw [result]
    exact ⟨rfl, flushed.mixed.hostRate, flushed.mixed.memoD⟩

end Recomputed

/-! ## `FREQUPD` (45_fetch_scheduler.md R180) -/

section Frequpd
variable {s : State} {v : SoundState}

theorem execFrequpd_memoised (active : Active s v) (hD : v.memoD = some (dmaKey s.ports))
    (hS : v.memoS = some (stepKey s.ports v.hostRate)) : execFrequpd s = .next s := by
  rw [execFrequpd_active active, updateDmaRate_hit hD, updateStep_hit hS, setSound_of_active active]
  rfl

end Frequpd

/-- Settles O37: both recomputations are hits. -/
theorem frequpdMemoised : Obligations.FrequpdMemoised := fun _ _ => execFrequpd_memoised

/-- Settles O38: the first `FREQUPD` leaves the present keys in both memos. -/
theorem frequpdTwiceIsOnce : Obligations.FrequpdTwiceIsOnce := by
  intro s t run
  obtain ⟨v, ⟨notFatal, -⟩, rfl⟩ := execFrequpd_next run
  obtain ⟨memoS, rate, memoD⟩ := updateStep_flush_keys s.params s.ports (updateDmaRate s.params s.ports v) s.host
  refine execFrequpd_memoised ⟨notFatal, rfl⟩ ?_ ?_
  · rw [memoD, updateDmaRate_eq]
    rfl
  · rw [memoS, rate]
    rfl

/-- Settles O39: a new key of `memoS` means a flush and then the writes, a new key of `memoD` alone one write. -/
theorem frequpdRecomputes : Obligations.FrequpdRecomputes := by
  refine ⟨fun s v active newKey => ?_, fun s v active hS newKey => ?_, fun s => requireActive_of_uninit _, by decide⟩
  · have run := execFrequpd_active active
    rw [updateDmaRate_eq] at run
    obtain ⟨m, step, ⟨mixed, host, ended⟩, step_eq, result⟩ :=
      updateStep_new_key s.params (v := v.setDmaRate _ _) s.host newKey
    rw [result] at run
    exact ⟨_, _, run, mixed.memoD, mixed.dmaRate, rfl, step_eq, rfl, mixed.batchSize, mixed.stereoSense, mixed.hostRate,
      mixed.logTable, mixed.panMatrix, mixed.ring, host.initAnswer, host.calls, ended⟩
  · have run := execFrequpd_active active
    rw [updateDmaRate_miss newKey, updateStep_hit (v := v.setDmaRate _ _) hS] at run
    exact run

/-! ## `RATEUPD` (45_fetch_scheduler.md R181) -/

section Rateupd
variable {s : State} {v : SoundState}

theorem execRateupd_active (active : Active s v) (rate : s.ports.hostRateIn ≠ 0) :
    execRateupd s = .next ((s.setSound (rateUpdated s v).1).setHost (rateUpdated s v).2) := by
  unfold execRateupd
  rw [requireActive_of_active _ active, if_neg rate]
  rfl

theorem execRateupd_zeroRate (active : Active s v) (rate : s.ports.hostRateIn = 0) :
    execRateupd s = .refused .zeroRate := by
  unfold execRateupd
  rw [requireActive_of_active _ active, if_pos rate]

theorem rateUpdated_hit (hk : v.memoS = some (stepKey s.ports s.ports.hostRateIn)) :
    rateUpdated s v = (v.setHostRate s.ports.hostRateIn, s.host) := by
  rw [rateUpdated, rateFlush, if_pos hk]
  exact updateStep_hit hk

/-- The flush leaves `memoS`, so after it the key is still new. -/
theorem rateUpdated_new_key (hk : v.memoS ≠ some (stepKey s.ports s.ports.hostRateIn)) :
    ∃ m step, Flushed v s.host m ∧
      step = max 1 (srcRateOf s.params s.ports.sndFreq s.ports.clkSel * 2 ^ 19 / s.ports.hostRateIn.toNat) ∧
      rateUpdated s v = ((m.sound.setHostRate s.ports.hostRateIn).setStep step (2 ^ 25 / step)
        (stepKey s.ports s.ports.hostRateIn), m.host) := by
  refine ⟨flush s.params v s.host, _, flush_flushed .., stepFor_eq s.params (stepKey s.ports s.ports.hostRateIn), ?_⟩
  rw [rateUpdated, rateFlush, if_neg hk]
  exact updateStep_miss (by rwa [SoundState.setHostRate_memoS, (flush_onlyMixed ..).memoS])

end Rateupd

/-- Settles O41: a new key means a flush and then the writes, an unchanged one the write of `hostRate` alone. -/
theorem rateupdTakesTheNewRate : Obligations.RateupdTakesTheNewRate := by
  refine ⟨fun s v active rate newKey => ?_, fun s v active rate hk => ?_, fun s v => execRateupd_zeroRate,
    fun s => requireActive_of_uninit _, by decide⟩
  · have run := execRateupd_active active rate
    obtain ⟨m, step, ⟨mixed, host, ended⟩, step_eq, result⟩ := rateUpdated_new_key newKey
    rw [result] at run
    exact ⟨_, _, run, rfl, rfl, step_eq, rfl, mixed.dmaRate, mixed.memoD, mixed.batchSize, mixed.stereoSense,
      mixed.logTable, mixed.panMatrix, mixed.ring, host.initAnswer, host.calls, ended⟩
  · have run := execRateupd_active active rate
    rw [rateUpdated_hit hk] at run
    exact run

/-! ## The units a `TICK` fetches (45_fetch_scheduler.md R175, R179) -/

section Avail
variable {params : Params} {p : Ports} {v : SoundState}

theorem availUnits_off (off : p.dmaEn = false) : availUnits params p v = 0 := by
  simp [availUnits, off]

/-- R175, with the fixed parameters as numerals. -/
theorem availUnits_on (on : p.dmaEn = true) :
    (availUnits params p v : Int) = max 0 (min (batchUnits v : Int)
      (min (((p.dmaEnd.toNat : Int) + 16 - p.dmaCur.toNat) / 16) (((params.ringCap : Int) - v.ring.length) / 16))) := by
  rw [availUnits, if_pos on, Int.toNat_of_nonneg (le_max_left ..), srcBatch_eq]
  rfl

/-- The two cases determine the units. -/
theorem availUnits_eq {avail : Nat} (off : p.dmaEn = false → avail = 0)
    (on : p.dmaEn = true → (avail : Int) = max 0 (min (batchUnits v : Int)
      (min (((p.dmaEnd.toNat : Int) + 16 - p.dmaCur.toNat) / 16)
        (((params.ringCap : Int) - v.ring.length) / 16)))) : availUnits params p v = avail := by
  cases en : p.dmaEn with
  | false => rw [availUnits_off en, off en]
  | true => exact Int.ofNat.inj ((availUnits_on en).trans (on en).symm)

theorem availUnits_le_batchUnits (params : Params) (p : Ports) (v : SoundState) :
    availUnits params p v ≤ batchUnits v := by
  cases en : p.dmaEn with
  | false =>
    rw [availUnits_off en]
    exact Nat.zero_le _
  | true =>
    have := availUnits_on (params := params) (v := v) en
    omega

theorem availUnits_le_bytesLeft (params : Params) (p : Ports) (v : SoundState) :
    (16 * availUnits params p v : Int) ≤ max 0 ((p.dmaEnd.toNat : Int) + 16 - p.dmaCur.toNat) := by
  cases en : p.dmaEn with
  | false =>
    rw [availUnits_off en]
    exact le_max_left ..
  | true =>
    have := availUnits_on (params := params) (v := v) en
    omega

end Avail

/-- Settles O50: the least of three bounds is below each of them. -/
theorem fetchStaysInsideTheBuffer : Obligations.FetchStaysInsideTheBuffer := fun params p v =>
  ⟨availUnits_le_batchUnits params p v, availUnits_le_bytesLeft params p v, availUnits_fits p⟩

/-! ## What `TICK` leaves (45_fetch_scheduler.md R172) -/

/-- What step 4 of `TICK` leaves. -/
def tickMixed (s : State) (v : SoundState) : Mixed := mixBody s.params (tickFetched s v) s.host

/-- The time `TICK` arms the timer at (45_fetch_scheduler.md R176, R178). -/
def tickTime (s : State) (v : SoundState) : Nat :=
  s.ports.now + interval (tickMixed s v).sound.dmaRate (tickAvail s v)
    (srcBatch (updateDmaRate s.params s.ports v)) (tickMixed s v).sound.fudgeRate

/-- The state `TICK` leaves. -/
def tickLeaves (s : State) (v : SoundState) : State :=
  (((s.setSound (tickMixed s v).sound).setHost (tickMixed s v).host).setPorts
    (advancePointer (swapOrWrap s.ports) (tickAvail s v))).setSched (.armed (tickTime s v))

section Tick
variable {s : State} {v : SoundState}

theorem execTick_active (active : Active s v) : execTick s = .next (tickLeaves s v) :=
  requireActive_of_active _ active

/-- `UpdateDmaRate` leaves what the units and the batch are computed from. -/
theorem tickAvail_eq (s : State) (v : SoundState) :
    tickAvail s v = availUnits s.params (swapOrWrap s.ports) v := by
  rw [tickAvail, updateDmaRate_eq]
  rfl

theorem srcBatch_updateDmaRate (s : State) (v : SoundState) :
    srcBatch (updateDmaRate s.params s.ports v) = batchUnits v := by
  rw [updateDmaRate_eq, srcBatch_eq]
  rfl

/-- A fetch never exceeds the batch, so the interval is that of the batch (45_fetch_scheduler.md R176). -/
theorem tickTime_cast (s : State) (v : SoundState) :
    (tickTime s v : Int) = s.ports.now +
      max 100 (((tickMixed s v).sound.dmaRate : Int) * batchUnits v + (tickMixed s v).sound.fudgeRate) := by
  have fetched : max (tickAvail s v) (batchUnits v) = batchUnits v :=
    max_eq_right (tickAvail_eq s v ▸ availUnits_le_batchUnits ..)
  rw [tickTime, srcBatch_updateDmaRate, Int.natCast_add, interval_cast, fetched]

/-- Fetching and mixing leave the rate of step 1 and its key. -/
theorem tickMixed_dmaRate (s : State) (v : SoundState) :
    (tickMixed s v).sound.memoD = some (dmaKey s.ports) ∧
    (tickMixed s v).sound.dmaRate =
      if v.memoD = some (dmaKey s.ports) then v.dmaRate else dmaRateFor s.params (dmaKey s.ports) := by
  have mixed : OnlyMixed (tickFetched s v) (tickMixed s v).sound := mixBody_onlyMixed ..
  rw [mixed.memoD, mixed.dmaRate, tickFetched, updateDmaRate_eq]
  exact ⟨rfl, rfl⟩

end Tick

/-- Settles O47: `TICK` has no path that is refused in `Active`, and it arms the timer last. -/
theorem tickRearmsTheTimer : Obligations.TickRearmsTheTimer := by
  intro s v active
  have time := tickTime_cast s v
  obtain ⟨memoD, dmaRate⟩ := tickMixed_dmaRate s v
  exact ⟨tickLeaves s v, (tickMixed s v).sound, tickTime s v, execTick_active active, rfl, rfl, by omega, time, memoD,
    dmaRate, rfl⟩

/-! ## The pointers (45_fetch_scheduler.md R174, R177) -/

section Pointers
variable {p : Ports}

theorem swapOrWrap_neither (h : ¬ (p.dmaEn = true ∧ p.dmaEnd.toNat < p.dmaCur.toNat)) : swapOrWrap p = p := if_neg h

theorem swapOrWrap_dmaEn (p : Ports) : (swapOrWrap p).dmaEn = p.dmaEn := by rw [swapOrWrap_frame]

/-- R177 as a number. -/
theorem advancePointer_dmaCur_eq_ofNat (p : Ports) (avail : Nat) :
    (advancePointer p avail).dmaCur = BitVec.ofNat 32 (p.dmaCur.toNat + 16 * avail) := by
  rw [advancePointer_dmaCur, BitVec.ofNat_add, BitVec.ofNat_toNat, BitVec.setWidth_eq]

theorem advancePointer_zero (p : Ports) : advancePointer p 0 = p := by simp [advancePointer]

end Pointers

/-- Settles O48: the swap or wrap gives the pointers, they the units fetched, and those the advance. -/
theorem tickMovesThePointers : Obligations.TickMovesThePointers := by
  intro s v past swap base last avail active past_iff swap_iff swapped wrapped stayed off on
  obtain ⟨rfl, rfl, swaps, keeps⟩ : (swapOrWrap s.ports).dmaCur = base ∧ (swapOrWrap s.ports).dmaEnd = last ∧
      (swap → swapOrWrap s.ports = swapBuffer s.ports) ∧
      (¬ swap → swapOrWrap s.ports = { s.ports with dmaCur := (swapOrWrap s.ports).dmaCur }) := by
    by_cases hpast : past
    · obtain ⟨en, beyond⟩ := past_iff.mp hpast
      by_cases hswap : swap
      · obtain ⟨rfl, rfl⟩ := swapped hswap
        obtain ⟨-, latched⟩ := swap_iff.mp hswap
        rw [swapOrWrap_swap en beyond latched]
        exact ⟨rfl, rfl, fun _ => rfl, fun h => absurd hswap h⟩
      · obtain ⟨rfl, rfl⟩ := wrapped hpast hswap
        have latched : s.ports.dmaNextValid = false := by
          rw [← Bool.not_eq_true]
          exact fun valid => hswap (swap_iff.mpr ⟨hpast, valid⟩)
        rw [swapOrWrap_wrap en beyond latched]
        exact ⟨rfl, rfl, fun h => absurd h hswap, fun _ => rfl⟩
    · obtain ⟨rfl, rfl⟩ := stayed hpast
      rw [swapOrWrap_neither (mt past_iff.mpr hpast)]
      exact ⟨rfl, rfl, fun h => absurd (swap_iff.mp h).1 hpast, fun _ => rfl⟩
  have fetched : tickAvail s v = avail := by
    rw [← swapOrWrap_dmaEn] at off on
    rw [tickAvail_eq, availUnits_eq off on]
  refine ⟨tickLeaves s v, execTick_active active, ?_, rfl, fun h => ?_, fun h => ?_⟩
  · rw [← fetched]
    exact advancePointer_dmaCur_eq_ofNat ..
  · rw [tickLeaves, swaps h]
    rfl
  · rw [tickLeaves, keeps h]
    rfl

/-! ## `TICK` with DMA off (45_fetch_scheduler.md R179) -/

section DmaOff
variable {s : State} {v : SoundState}

theorem tickAvail_off (off : s.ports.dmaEn = false) : tickAvail s v = 0 :=
  availUnits_off ((swapOrWrap_dmaEn _).trans off)

/-- Without a fetch `TICK` mixes what the ring held. -/
theorem tickMixed_off (off : s.ports.dmaEn = false) :
    tickMixed s v = mixBody s.params (updateDmaRate s.params s.ports v) s.host := by
  rw [tickMixed, tickFetched, tickAvail_off off, appendUnits_zero]

/-- Memory is read by the fetch alone. -/
theorem tickLeaves_setMem_off (m : Memory) (off : s.ports.dmaEn = false) :
    tickLeaves (s.setMem m) v = (tickLeaves s v).setMem m := by
  have mixed : tickMixed (s.setMem m) v = tickMixed s v := by
    rw [tickMixed_off off]
    exact tickMixed_off (s := s.setMem m) off
  have time : tickTime (s.setMem m) v = tickTime s v := by
    rw [tickTime, mixed]
    rfl
  rw [tickLeaves, mixed, time]
  rfl

end DmaOff

/-- Settles O51: with DMA off there is no swap, no wrap and no unit to fetch. -/
theorem tickWithDmaOff : Obligations.TickWithDmaOff := by
  intro s v m active off
  refine ⟨tickLeaves s v, execTick_active active, ?_, ?_⟩
  · show advancePointer (swapOrWrap s.ports) (tickAvail s v) = s.ports
    rw [tickAvail_off off, advancePointer_zero, swapOrWrap_off off]
  · rw [← tickLeaves_setMem_off m off]
    exact execTick_active active

/-! ## The pipeline (45_fetch_scheduler.md R172 step 4) -/

/-- Settles O52: the units fit the ring, so `L2L` is not refused, and it leaves `MIX` what `TICK` mixes. -/
theorem tickIsL2lThenMix : Obligations.TickIsL2lThenMix := by
  intro s t v active room run
  cases (execTick_active active).symm.trans run
  have rated : (updateDmaRate s.params s.ports v).ringCount ≤ s.params.ringCap := by rwa [updateDmaRate_eq]
  exact ⟨_, _, _, _, _, rfl, rfl, rfl, execL2l_active _ ⟨active.1, rfl⟩ (availUnits_fits _ rated),
    execMix_active ⟨active.1, rfl⟩, rfl, rfl⟩

end Sys2Proof.Machine
end

section
/-! The family of 46_lifecycle.md: what `INIT` (R190) and `SHUTDOWN` (R192, R193) leave, and that nothing of the old
`SoundState` survives the pair (R194). -/

namespace Sys2Proof.Machine

/-! ## What `INIT` leaves (46_lifecycle.md R190) -/

/-- The state after `INIT` met the host's answer. -/
def initLeaves (s : State) : HostInitAnswer → State
  | .failed => takeInitFailure (s.setHost s.host.callInit)
  | .ok rate batch sense =>
    (((s.setSound (some (createSound s.params s.ports s.host.callInit rate batch sense).1)).setHost
      s.host.callInit).setSched (.armed (s.ports.now + MIN_INTERVAL))).setResult 0

section Init
variable {s s' t : State}

theorem execInit_failed (uninit : Uninit s) (answer : s.host.initAnswer = .failed) :
    execInit s = .next (initLeaves s .failed) := by
  simp only [execInit, requireUninit_of_uninit _ uninit, answer, initLeaves]

theorem execInit_ok {rate : BitVec 32} {batch : Nat} {sense : StereoSense} (uninit : Uninit s)
    (answer : s.host.initAnswer = .ok rate batch sense) (hr : rate ≠ 0) (hb : batch ≠ 0) :
    execInit s = .next (initLeaves s (.ok rate batch sense)) := by
  simp only [execInit, requireUninit_of_uninit _ uninit, answer, if_neg (not_or.mpr ⟨hr, hb⟩)]
  rfl

/-- What `INIT` leaves when it answers a next state, by the host's answer. -/
theorem execInit_next_leaves (h : execInit s = .next t) : Uninit s ∧ t = initLeaves s s.host.initAnswer := by
  obtain ⟨uninit, -⟩ := execInit_next h
  refine ⟨uninit, ?_⟩
  cases answer : s.host.initAnswer with
  | failed =>
    cases (execInit_failed uninit answer).symm.trans h
    rfl
  | ok rate batch sense =>
    by_cases broken : rate = 0 ∨ batch = 0
    · cases (execInit_of_brokenHost uninit ⟨rate, batch, sense, answer, broken⟩).symm.trans h
    · obtain ⟨hr, hb⟩ := not_or.mp broken
      cases (execInit_ok uninit answer hr hb).symm.trans h
      rfl

/-- The `SoundState`, `sched` and `result` that `INIT` leaves depend on the old `SoundState` and `sched`, the ports, the
parameters and the answer alone. -/
theorem initLeaves_congr (answer : HostInitAnswer) (sound : s.sound = s'.sound) (sched : s.sched = s'.sched)
    (ports : s.ports = s'.ports) (params : s.params = s'.params) :
    (initLeaves s answer).sound = (initLeaves s' answer).sound ∧
    (initLeaves s answer).sched = (initLeaves s' answer).sched ∧
    (initLeaves s answer).result = (initLeaves s' answer).result := by
  cases answer with
  | failed => exact ⟨sound, sched, rfl⟩
  | ok rate batch sense => simp [initLeaves, createSound_eq, ports, params]

theorem initLeaves_frame (s : State) (answer : HostInitAnswer) :
    (initLeaves s answer).ports = s.ports ∧ (initLeaves s answer).fatal = s.fatal := by
  cases answer <;> exact ⟨rfl, rfl⟩

/-- A `SoundState` that stands after `INIT` is new: empty ring, zero time and fudge rate, the table as built. -/
theorem initLeaves_fresh {answer : HostInitAnswer} {v : SoundState} (uninit : Uninit s)
    (h : (initLeaves s answer).sound = some v) :
    v.ring = [] ∧ v.resampleTime = 0 ∧ v.fudgeRate = 0 ∧ ∀ code, tableAt v.logTable code = logLin code := by
  cases answer with
  | failed => cases uninit.2.symm.trans h
  | ok rate batch sense =>
    cases h
    exact ⟨rfl, rfl, rfl, logTable_at⟩

end Init

/-- Settles O11: `createSound` writes every field of R190, from the host's answer and the ports. -/
theorem initCreatesTheSoundState : Obligations.InitCreatesTheSoundState := by
  refine ⟨fun s rate batch sense uninit answer hr hb => ?_, fun _ => execInit_failed,
    fun s v active => requireUninit_of_active _ active, decode_eq_ok_iff_toNat.mpr ⟨trivial, rfl⟩⟩
  refine ⟨(createSound s.params s.ports s.host.callInit rate batch sense).1,
    execInit_ok uninit answer hr (Nat.one_le_iff_ne_zero.mp hb), rfl, rfl, rfl, logTable_at, fun ch => ?_, rfl, rfl, rfl,
    rfl, rfl, stepFor_eq s.params (stepKey s.ports rate), rfl, rfl⟩
  refine (panMatrixOf_get sense s.ports.panReg ch ch.isLt).trans ?_
  cases sense <;> rfl

/-! ## What `SHUTDOWN` leaves (46_lifecycle.md R192) -/

/-- The state after a `SHUTDOWN` that found the timer entry. -/
def released (s : State) : State := ((s.setSched .idle).setHost s.host.callQuit).setSound none

section Shutdown
variable {s t u : State} {v : SoundState}

theorem execShutdown_found (active : Active s v) (found : s.schedFinds = true) :
    execShutdown s = .next (released s) := by
  rw [execShutdown_active active, if_pos found, released]

theorem execShutdown_lost (active : Active s v) (lost : s.schedFinds = false) :
    execShutdown s = .next (takeFatalConsistency s) := by
  rw [execShutdown_active active, if_neg (Bool.eq_false_iff.mp lost)]

/-- After E2 every command is refused (60_exceptions.md R202). -/
theorem exec_of_fatal (i : Instr) (fatal : s.fatal = true) : exec i s = .refused .fatalSet := by
  cases i with
  | init => exact requireUninit_of_fatal _ fatal
  | shutdown | lookup _ | panupd | frequpd | rateupd | tick | l2l _ | mix | feedbk =>
    exact requireActive_of_fatal _ fatal

/-- A `SHUTDOWN` after which the block is in `Uninit` released everything. -/
theorem eq_released_of_execShutdown (h : execShutdown s = .next u) (uninit : Uninit u) : u = released s := by
  obtain ⟨v, -, rfl | rfl⟩ := execShutdown_next h
  · rfl
  · cases uninit.1

end Shutdown

/-- Settles O13, by the scheduler's answer. -/
theorem shutdownReleasesOrIsFatal : Obligations.ShutdownReleasesOrIsFatal :=
  ⟨fun _ _ => execShutdown_found, fun _ _ active lost => ⟨execShutdown_lost active lost, fun i => exec_of_fatal i rfl⟩,
    fun _ => requireActive_of_uninit _, decode_eq_ok_iff_toNat.mpr ⟨trivial, rfl⟩⟩

/-! ## Backend switching (46_lifecycle.md R194) -/

/-- What `SHUTDOWN` and then `INIT` leave, when both answer a next state. -/
theorem shutdown_init_next {s u t : State} (down : execShutdown s = .next u) (up : execInit u = .next t) :
    Uninit (released s) ∧ t = initLeaves (released s) s.host.initAnswer := by
  obtain ⟨uninit, rfl⟩ := execInit_next_leaves up
  cases eq_released_of_execShutdown down uninit
  exact ⟨uninit, rfl⟩

/-- Settles O15: `SHUTDOWN` leaves no `SoundState` and an idle `sched`, and what `INIT` makes of these is fixed by the
ports, the parameters and the answer. -/
theorem backendSwitchForgets : Obligations.BackendSwitchForgets := by
  intro s s' u u' t t' ports params answer down down' up up'
  obtain ⟨uninit, rfl⟩ := shutdown_init_next down up
  obtain ⟨-, rfl⟩ := shutdown_init_next down' up'
  rw [← answer]
  obtain ⟨sound, sched, result⟩ := initLeaves_congr (s := released s) (s' := released s') s.host.initAnswer rfl rfl ports
    params
  obtain ⟨samePorts, sameFatal⟩ := initLeaves_frame (released s) s.host.initAnswer
  exact ⟨sound, sched, result, samePorts, sameFatal, fun v => initLeaves_fresh uninit⟩

end Sys2Proof.Machine
end

section
/-! The family of 60_exceptions.md: steps without a command (R211, R213), the errors E1 (R201), E2 (R202) and E3 (R203), the
interrupt (R205), which commands are refused (R208), and that the others complete (R212). -/

namespace Sys2Proof.Machine

/-! ## A command completes or is refused (60_exceptions.md R208, R212) -/

/-- The cases (b) to (e) of R208: the state excludes the command. -/
def Excluded (i : Instr) (s : State) : Prop :=
  s.fatal = true ∨ (i = .init ∧ s.sound ≠ none) ∨ (i ≠ .init ∧ s.sound = none) ∨
    (∃ avail v, i = .l2l avail ∧ s.sound = some v ∧ s.params.ringCap < v.ringCount + 16 * avail) ∨
    (i = .rateupd ∧ s.ports.hostRateIn = 0)

section Refusals
variable {i : Instr} {s : State} {v : SoundState}

/-- Without `fatal`, `life` is one of two. -/
theorem uninit_or_active (alive : s.fatal = false) : Uninit s ∨ ∃ v, Active s v := by
  cases sound : s.sound with
  | none => exact .inl ⟨alive, sound⟩
  | some v => exact .inr ⟨v, alive, sound⟩

theorem exec_of_uninit (hi : i ≠ .init) (uninit : Uninit s) : exec i s = .refused .notActive := by
  cases i with
  | init => exact absurd rfl hi
  | shutdown | lookup _ | panupd | frequpd | rateupd | tick | l2l _ | mix | feedbk =>
    exact requireActive_of_uninit _ uninit

theorem exec_completes_of_active (active : Active s v) (hi : i ≠ .init)
    (room : ∀ avail, i = .l2l avail → v.ringCount + 16 * avail ≤ s.params.ringCap)
    (rate : i = .rateupd → s.ports.hostRateIn ≠ 0) : ∃ t, exec i s = .next t := by
  cases i with
  | init => exact absurd rfl hi
  | shutdown =>
    cases finds : s.schedFinds with
    | true => exact ⟨_, execShutdown_found active finds⟩
    | false => exact ⟨_, execShutdown_lost active finds⟩
  | lookup code => exact ⟨_, execLookup_active code active⟩
  | panupd => exact ⟨_, execPanupd_active active⟩
  | frequpd => exact ⟨_, execFrequpd_active active⟩
  | rateupd => exact ⟨_, execRateupd_active active (rate rfl)⟩
  | tick => exact ⟨_, execTick_active active⟩
  | l2l avail => exact ⟨_, execL2l_active avail active (room avail rfl)⟩
  | mix => exact ⟨_, execMix_active active⟩
  | feedbk => exact ⟨_, execFeedbk_active active⟩

/-- In `Uninit`, `INIT` completes unless the host breaks its contract. -/
theorem execInit_completes (uninit : Uninit s) (kept : ¬ BrokenHost s) : ∃ t, execInit s = .next t := by
  cases answer : s.host.initAnswer with
  | failed => exact ⟨_, execInit_failed uninit answer⟩
  | ok rate batch sense =>
    obtain ⟨hr, hb⟩ := not_or.mp fun zero => kept ⟨rate, batch, sense, answer, zero⟩
    exact ⟨_, execInit_ok uninit answer hr hb⟩

theorem exec_refused_of_excluded (excluded : Excluded i s) : ∃ r, exec i s = .refused r := by
  cases alive : s.fatal with
  | true => exact ⟨_, exec_of_fatal i alive⟩
  | false =>
    rcases excluded with fatal | ⟨rfl, present⟩ | ⟨hi, absent⟩ | ⟨avail, v, rfl, sound, overrun⟩ | ⟨rfl, zero⟩
    · cases alive.symm.trans fatal
    · obtain ⟨v, sound⟩ := Option.ne_none_iff_exists'.mp present
      exact ⟨_, requireUninit_of_active _ ⟨alive, sound⟩⟩
    · exact ⟨_, exec_of_uninit hi ⟨alive, absent⟩⟩
    · exact ⟨_, execL2l_overrun ⟨alive, sound⟩ overrun⟩
    · rcases uninit_or_active alive with uninit | ⟨v, active⟩
      · exact ⟨_, exec_of_uninit (by decide) uninit⟩
      · exact ⟨_, execRateupd_zeroRate active zero⟩

/-- A command the state does not exclude completes, or is the one that faults. -/
theorem exec_next_or_fault (free : ¬ Excluded i s) : (∃ t, exec i s = .next t) ∨ ∃ f, exec i s = .fault f := by
  simp only [Excluded, not_or] at free
  obtain ⟨alive, init_free, life_free, room, rate⟩ := free
  rcases uninit_or_active (Bool.eq_false_iff.mpr alive) with uninit | ⟨v, active⟩
  · obtain rfl : i = .init := by_contra fun hi => life_free ⟨hi, uninit.2⟩
    by_cases broken : BrokenHost s
    · exact .inr ⟨_, execInit_of_brokenHost uninit broken⟩
    · exact .inl (execInit_completes uninit broken)
  · have hi : i ≠ .init := fun hi => init_free ⟨hi, by simp [active.2]⟩
    exact .inl (exec_completes_of_active active hi
      (fun avail hl => Nat.not_lt.mp fun overrun => room ⟨avail, v, hl, active.2, overrun⟩)
      (fun hu zero => rate ⟨hu, zero⟩))

theorem exec_refused_iff : (∃ r, exec i s = .refused r) ↔ Excluded i s := by
  refine ⟨fun ⟨r, refused⟩ => by_contra fun free => ?_, exec_refused_of_excluded⟩
  rcases exec_next_or_fault free with ⟨t, next⟩ | ⟨f, fault⟩
  · cases next.symm.trans refused
  · cases fault.symm.trans refused

end Refusals

/-- Settles O7: a word without a command is refused by the decoder, and a command exactly when the state excludes it. -/
theorem refusedExactlyWhenListed : Obligations.RefusedExactlyWhenListed := by
  intro s w rest hs
  cases hd : decode w with
  | error e => exact iff_of_true ⟨_, step_badWord hs hd⟩ (.inl fun _ => nofun)
  | ok i =>
    rw [step_command hs hd, exec_refused_iff]
    constructor
    · exact fun excluded => .inr ⟨i, rfl, excluded⟩
    · rintro (noCommand | ⟨j, same, excluded⟩)
      · exact absurd rfl (noCommand i)
      · cases same
        exact excluded

/-- Settles O9, by the commands' bodies in `Active`, and in `Uninit` by the host's answer. -/
theorem everyCommandCompletes : Obligations.EveryCommandCompletes := by
  refine ⟨fun _ _ _ => exec_completes_of_active, fun s uninit contract => execInit_completes uninit ?_⟩
  rintro ⟨rate, batch, sense, answer, zero⟩
  obtain ⟨hr, hb⟩ := contract rate batch sense answer
  exact zero.elim hr (Nat.one_le_iff_ne_zero.mp hb)

/-! ## E2 (60_exceptions.md R202) -/

/-- A step from a state with `fatal = 1` ran no command: it held, or an external agent acted. -/
theorem step_of_fatal {s t : State} (fatal : s.fatal = true) (h : step s = .next t) :
    t = s ∨ ∃ rest, t = s.setInputs rest ∨ ∃ x, t = (s.setInputs rest).external x := by
  rcases step_next_cases h with same | acted | ⟨i, u, issued, run⟩
  · exact .inl same
  · exact .inr (takeInput_acted acted)
  · obtain ⟨rest, ports, rfl, -⟩ := takeInput_issue issued
    cases (exec_of_fatal (s := (s.setInputs rest).setPorts ports) i fatal).symm.trans run

/-- Settles O14: with `fatal` every command is refused, and an external agent writes no field of the block. -/
theorem fatalIsTerminal : Obligations.FatalIsTerminal := by
  refine ⟨fun s v active lost => ⟨_, execShutdown_lost active lost, rfl, active.2⟩, fun s i => exec_of_fatal i,
    fun s t fatal h => ?_⟩
  obtain rfl | ⟨rest, rfl | ⟨x, rfl⟩⟩ := step_of_fatal fatal h
  · exact ⟨fatal, rfl, rfl, rfl, rfl⟩
  · exact ⟨fatal, rfl, rfl, rfl, rfl⟩
  · obtain ⟨sound, sched, sameFatal, result, -, -, calls⟩ := external_block_fields (s.setInputs rest) x
    exact ⟨sameFatal.trans fatal, sound, sched, result, calls⟩

/-! ## E3 (60_exceptions.md R203) -/

/-- Of the host's answers for a lent buffer, `MixBody` reads `cap` and the report for the `SoundState`, and not how many
pairs the host takes. -/
theorem mixBody_sound_congr {p : Params} {v : SoundState} {h h' : HostSink} (cap : h.nextLend.cap = h'.nextLend.cap)
    (report : h.nextLend.report = h'.nextLend.report) : (mixBody p v h).sound = (mixBody p v h').sound := by
  by_cases nothing : h.nextLend.cap = 0
  · rw [mixBody_nothing_lent nothing, mixBody_nothing_lent (cap ▸ nothing)]
  · rw [mixBody_lent nothing, mixBody_lent (cap ▸ nothing), cap, report]

/-- Settles O35: the two buffers differ in nothing that `MixBody` reads for the block, and both are used up. -/
theorem aShortAcceptanceChangesNothing : Obligations.AShortAcceptanceChangesNothing := by
  rintro s _ t t' cap room room' report rest lent rfl run run'
  obtain ⟨v, active, rfl⟩ := execMix_next run
  obtain ⟨v', active', rfl⟩ := execMix_next run'
  cases active.2.symm.trans active'.2
  have sound : (mixBody s.params v s.host).sound =
      (mixBody s.params v { s.host with lends := ⟨cap, room', report⟩ :: rest }).sound :=
    mixBody_sound_congr (by simp [HostSink.nextLend, lent]) (by simp [HostSink.nextLend, lent])
  refine ⟨congrArg some sound, ?_, ?_⟩
  · simp [mixBody_lends, lent]
  · rw [sound]
    rfl

/-! ## The interrupt (60_exceptions.md R205) -/

/-- The swap raises the interrupt; the wrap and neither leave it. -/
theorem swapOrWrap_sndIrq (p : Ports) : (swapOrWrap p).sndIrq = true ↔
    p.sndIrq = true ∨ (p.dmaEn = true ∧ p.dmaEnd.toNat < p.dmaCur.toNat ∧ p.dmaNextValid = true) := by
  by_cases past : p.dmaEn = true ∧ p.dmaEnd.toNat < p.dmaCur.toNat
  · obtain ⟨en, beyond⟩ := past
    cases latched : p.dmaNextValid with
    | true => simp [swapOrWrap_swap en beyond latched, en, beyond]
    | false => simp [swapOrWrap_wrap en beyond latched]
  · rw [swapOrWrap_neither past]
    exact ⟨.inl, fun h => h.elim id fun ⟨en, beyond, _⟩ => absurd ⟨en, beyond⟩ past⟩

/-- Settles O49: `TICK` alone writes the interrupt, by its swap. -/
theorem interruptRaisedExactlyOnASwap : Obligations.InterruptRaisedExactlyOnASwap := by
  intro i s t h
  by_cases hi : i = .tick
  · subst hi
    obtain ⟨v, time, -, rfl⟩ := execTick_next h
    simpa using swapOrWrap_sndIrq s.ports
  · rw [(exec_blockFrame h).ports hi]
    simp [hi]

/-! ## Steps without a command (60_exceptions.md R211, R213) -/

/-- Settles O6, by the input taken. -/
theorem stepWithoutACommand : Obligations.StepWithoutACommand := by
  refine ⟨fun s empty => ?_, fun s x rest write => ?_, fun s rest timer idle => ?_, fun s rest n timer armed => ?_⟩
  · simp only [step, takeInput, empty]
  · simp only [step, takeInput, write]
  · simp only [step, takeInput, timer, expireTimer, State.setInputs_sched, idle]
  · simp only [step, takeInput, timer, expireTimer, State.setInputs_sched, armed, State.setInputs_ports]

/-! ## E1 (60_exceptions.md R201) -/

/-- Settles O12: the failed `INIT` leaves the block in `Uninit` and the host with the same answer. -/
theorem failedInitMayBeRetried : Obligations.FailedInitMayBeRetried := by
  intro s uninit answer
  have again : execInit (initLeaves s .failed) = .next (initLeaves (initLeaves s .failed) .failed) :=
    execInit_failed uninit answer
  exact ⟨_, execInit_failed uninit answer, rfl, _, again⟩

end Sys2Proof.Machine
end
